-- ==== Sys2Proof/Word.lean ====
section
/-! DEFINITION. The two word types of the machine (spec/00_scope.md R10, R13): bytes and 16-bit words, both plain
unsigned bit vectors. Everything computed from them stands in Decode.lean and in the files of Machine/. -/

namespace Sys2Proof

/-- An 8-bit value: a register, a memory byte, an opcode byte, an immediate, a port number (R10, R13). -/
abbrev Byte := BitVec 8

/-- A 16-bit value: an address, PC, SP, a register pair, an immediate word (R10, R13). -/
abbrev Word := BitVec 16

end Sys2Proof
end

