-- ==== Sys2Proof/Config.lean ====
section
/-! DEFINITION. What an implementation fixes before the first step (spec/00_scope.md section 4, R6 to R8) and the one
free value of the machine, the byte an input port answers (R9). -/

namespace Sys2Proof

/-- The parameters of one machine (R6 to R8). They are plain data and can only hold values the spec allows. No step
changes them (spec/10_state.md R39; log entry 1). -/
structure Config where
  /-- MEM_SIZE is 4 bytes doubled this many times: `2^k` with `2 ≤ k ≤ 16` (R6). -/
  memDoublings : Fin 15
  /-- The opcode bytes left out of IMPLEMENTED: that set is the 244 documented bytes less these (R7). The twelve
  undocumented bytes are in no IMPLEMENTED, listed here or not. -/
  withheld : List Byte
  /-- PC_LIMIT: none, or a bound from 0 to 65536 (R8). -/
  pcLimit : Option (Fin 65537)
  deriving DecidableEq, Repr

/-- The values of this hardware: 16384 bytes of memory (R6), all 244 documented bytes implemented (R7), no bound on
the program counter (R8). -/
def Config.default : Config where
  memDoublings := 12
  withheld := []
  pcLimit := none

/-- IO_ENV's answers (R9; spec/20_memory.md R69): the byte that IN reads from `port` when `draw` port accesses were made
before it. A FREE VALUE: it has no body, so no proof can know it, and two reads of one port may differ (log entry 2). -/
opaque Config.ioRead (draw : Nat) (port : Byte) : Byte

end Sys2Proof
end

