-- ==== Sys2Proof/Machine/State.lean ====
section
/-! DEFINITION. The state of the machine, all of it (spec/10_state.md), as plain data; its reset value (R40); the
reasons a step can stop without a next state: there is none but an instruction the model lacks. -/

namespace Sys2Proof.Machine

/-- The five flags, one bit each (spec/10_state.md R27 to R29). All 32 combinations are states (90_conflicts.md C9). -/
structure Flags where
  /-- zero flag Z -/
  z : Bool
  /-- sign flag S -/
  s : Bool
  /-- parity flag P, true for an even number of one bits -/
  p : Bool
  /-- carry flag CY -/
  cy : Bool
  /-- auxiliary carry flag AC -/
  ac : Bool
  deriving DecidableEq, Repr

/-- The sequencer's field `run` (spec/10_state.md R36). Both halted values are terminal (spec/60_exceptions.md R279). -/
inductive RunState where
  | running
  | haltedNormal
  | haltedFault
  deriving DecidableEq, Repr

/-- The record of the unimplemented-opcode fault: the opcode byte and the address it was fetched from
(spec/10_state.md R37, spec/60_exceptions.md R271). -/
structure FaultRecord where
  op : Byte
  addr : Word
  deriving DecidableEq, Repr

/-- One access to the port space (spec/20_memory.md R69): a byte that IN was given, or a pair that OUT handed over. -/
inductive IoEvent where
  | input (port value : Byte)
  | output (port value : Byte)
  deriving DecidableEq, Repr

/-- The memory image (spec/10_state.md R34) as cells of an index below MEM_SIZE and a byte. Canonical form: indices
strictly rising, no cell holding 0x00, which is what an unlisted index reads as (R40). -/
abbrev Memory := List Host.Cell

/-- Everything the spec gives the machine (spec/10_state.md R20 to R37), and two fields of the model's own, `io` and
`cfg` (log entries 2 and 1). -/
structure State where
  /-- accumulator A (R20, R23) -/
  a : Byte
  /-- register B (R20) -/
  b : Byte
  /-- register C (R20) -/
  c : Byte
  /-- register D (R20) -/
  d : Byte
  /-- register E (R20) -/
  e : Byte
  /-- register H (R20) -/
  h : Byte
  /-- register L (R20) -/
  l : Byte
  /-- stack pointer SP, never reduced (R26) -/
  sp : Word
  /-- program counter PC, never reduced (R25) -/
  pc : Word
  /-- the five flags (R27) -/
  flags : Flags
  /-- interrupt enable INTE (R32) -/
  inte : Bool
  /-- the memory image (R34) -/
  mem : Memory
  /-- running, or one of the two ends (R36) -/
  run : RunState
  /-- what the fault recorded (R37) -/
  fault : Option FaultRecord
  /-- the port accesses so far, oldest first: the event history of R35, the model's own field (log entry 2) -/
  io : List IoEvent
  /-- the parameters of this machine; no step changes them (R39; log entry 1) -/
  cfg : Config
  deriving DecidableEq, Repr

/-- The reasons a step could stop the machine without a next state. There are NONE: the spec's one fault is a state of
the machine, taken as a next state (spec/60_exceptions.md R273), no access faults (spec/20_memory.md R62), and the step
raises nothing else (R274). Nobody raises one, so nothing is safe or unsafe about it. -/
inductive Fault where
  deriving DecidableEq, Repr

/-- The reasons exec could refuse an instruction. -/
inductive Refusal where
  /-- Raised only by an arm of exec whose instruction has no meaning in the model yet; no arm does. Safe: it stops where
  the hardware goes on. -/
  | notModelled (mnemonic : String)
  deriving DecidableEq, Repr

/-- Construction (spec/10_state.md R40, spec/70_reset_and_hazards.md R300): the state of a machine with parameters
`cfg` right after reset. Every value is the spec's but the empty history `io` (log entry 2). -/
def State.construct (cfg : Config) : State where
  a := 0x00
  b := 0x00
  c := 0x00
  d := 0x00
  e := 0x00
  h := 0x00
  l := 0x00
  sp := 0x0000
  pc := 0x0000
  flags := ⟨true, true, true, true, true⟩
  inte := true
  mem := []
  run := .running
  fault := none
  io := []
  cfg := cfg

/-- The machine right after reset, with the parameters of this hardware (R40; spec/00_scope.md R6 to R8). -/
def State.reset : State := State.construct Config.default

end Sys2Proof.Machine
end

