-- ==== Sys2Proof/Syntax.lean ====
section
/-! DEFINITION. The instructions as terms: one constructor of Instr for every row of spec/opcode_table.json, that is
for every opcode byte (spec/30_encoding.md R104), with its numeric operand where it has one (R91, R98); and the names
of the operands that the fields of the opcode byte select (R94 to R97). -/

namespace Sys2Proof

/-- The seven 8-bit registers (spec/10_state.md R20). -/
inductive Reg where
  | b | c | d | e | h | l | a
  deriving DecidableEq, Repr

/-- The eight operands of the codes DDD and SSS: a register, or M, the memory byte at HL (spec/30_encoding.md R94). -/
inductive Operand where
  | reg (r : Reg)
  | m
  deriving DecidableEq, Repr

/-- The pairs of LXI, INX, DCX and DAD (spec/30_encoding.md R95). -/
inductive RegPair where
  | bc | de | hl | sp
  deriving DecidableEq, Repr

/-- The pairs of PUSH and POP (spec/30_encoding.md R95). -/
inductive StackPair where
  | bc | de | hl | psw
  deriving DecidableEq, Repr

/-- The pairs of STAX and LDAX (spec/40_data_transfer.md R132, R133). -/
inductive IndexPair where
  | bc | de
  deriving DecidableEq, Repr

/-- The eight conditions (spec/30_encoding.md R96). -/
inductive Cond where
  | nz | z | nc | c | po | pe | p | m
  deriving DecidableEq, Repr

/-- The eight ALU operations (spec/30_encoding.md R97). -/
inductive AluOp where
  | add | adc | sub | sbb | ana | xra | ora | cmp
  deriving DecidableEq, Repr

/-- The instructions by format (spec/30_encoding.md R91): three bytes, two bytes, one byte, each group in the order of
the opcode bytes; last the twelve bytes that have no instruction (R105). -/
inductive Instr where
  | lxiB (d16 : Word)
  | lxiD (d16 : Word)
  | lxiH (d16 : Word)
  | shld (a16 : Word)
  | lhld (a16 : Word)
  | lxiSp (d16 : Word)
  | sta (a16 : Word)
  | lda (a16 : Word)
  | jnz (a16 : Word)
  | jmp (a16 : Word)
  | cnz (a16 : Word)
  | jz (a16 : Word)
  | cz (a16 : Word)
  | call (a16 : Word)
  | jnc (a16 : Word)
  | cnc (a16 : Word)
  | jc (a16 : Word)
  | cc (a16 : Word)
  | jpo (a16 : Word)
  | cpo (a16 : Word)
  | jpe (a16 : Word)
  | cpe (a16 : Word)
  | jp (a16 : Word)
  | cp (a16 : Word)
  | jm (a16 : Word)
  | cm (a16 : Word)
  | mviB (d8 : Byte)
  | mviC (d8 : Byte)
  | mviD (d8 : Byte)
  | mviE (d8 : Byte)
  | mviH (d8 : Byte)
  | mviL (d8 : Byte)
  | mviM (d8 : Byte)
  | mviA (d8 : Byte)
  | adi (d8 : Byte)
  | aci (d8 : Byte)
  | outPort (p8 : Byte)
  | sui (d8 : Byte)
  | inPort (p8 : Byte)
  | sbi (d8 : Byte)
  | ani (d8 : Byte)
  | xri (d8 : Byte)
  | ori (d8 : Byte)
  | cpi (d8 : Byte)
  | nop
  | staxB
  | inxB
  | inrB
  | dcrB
  | rlc
  | dadB
  | ldaxB
  | dcxB
  | inrC
  | dcrC
  | rrc
  | staxD
  | inxD
  | inrD
  | dcrD
  | ral
  | dadD
  | ldaxD
  | dcxD
  | inrE
  | dcrE
  | rar
  | inxH
  | inrH
  | dcrH
  | daa
  | dadH
  | dcxH
  | inrL
  | dcrL
  | cma
  | inxSp
  | inrM
  | dcrM
  | stc
  | dadSp
  | dcxSp
  | inrA
  | dcrA
  | cmc
  | movBB
  | movBC
  | movBD
  | movBE
  | movBH
  | movBL
  | movBM
  | movBA
  | movCB
  | movCC
  | movCD
  | movCE
  | movCH
  | movCL
  | movCM
  | movCA
  | movDB
  | movDC
  | movDD
  | movDE
  | movDH
  | movDL
  | movDM
  | movDA
  | movEB
  | movEC
  | movED
  | movEE
  | movEH
  | movEL
  | movEM
  | movEA
  | movHB
  | movHC
  | movHD
  | movHE
  | movHH
  | movHL
  | movHM
  | movHA
  | movLB
  | movLC
  | movLD
  | movLE
  | movLH
  | movLL
  | movLM
  | movLA
  | movMB
  | movMC
  | movMD
  | movME
  | movMH
  | movML
  | hlt
  | movMA
  | movAB
  | movAC
  | movAD
  | movAE
  | movAH
  | movAL
  | movAM
  | movAA
  | addB
  | addC
  | addD
  | addE
  | addH
  | addL
  | addM
  | addA
  | adcB
  | adcC
  | adcD
  | adcE
  | adcH
  | adcL
  | adcM
  | adcA
  | subB
  | subC
  | subD
  | subE
  | subH
  | subL
  | subM
  | subA
  | sbbB
  | sbbC
  | sbbD
  | sbbE
  | sbbH
  | sbbL
  | sbbM
  | sbbA
  | anaB
  | anaC
  | anaD
  | anaE
  | anaH
  | anaL
  | anaM
  | anaA
  | xraB
  | xraC
  | xraD
  | xraE
  | xraH
  | xraL
  | xraM
  | xraA
  | oraB
  | oraC
  | oraD
  | oraE
  | oraH
  | oraL
  | oraM
  | oraA
  | cmpB
  | cmpC
  | cmpD
  | cmpE
  | cmpH
  | cmpL
  | cmpM
  | cmpA
  | rnz
  | popB
  | pushB
  | rst0
  | rz
  | ret
  | rst1
  | rnc
  | popD
  | pushD
  | rst2
  | rc
  | rst3
  | rpo
  | popH
  | xthl
  | pushH
  | rst4
  | rpe
  | pchl
  | xchg
  | rst5
  | rp
  | popPsw
  | di
  | pushPsw
  | rst6
  | rm
  | sphl
  | ei
  | rst7
  | undocumented08
  | undocumented10
  | undocumented18
  | undocumented20
  | undocumented28
  | undocumented30
  | undocumented38
  | undocumentedCB
  | undocumentedD9
  | undocumentedDD
  | undocumentedED
  | undocumentedFD
  deriving DecidableEq, Repr

end Sys2Proof
end

