-- ==== Sys2Proof/Machine/Flags.lean ====
section
/-! DEFINITION. Every flag computation: the ALU functions of spec/41_arithmetic.md R150 to R152 and R168, the flags of
the logical operations (spec/42_logical.md R180), the flag byte (spec/10_state.md R30), the conditions
(spec/43_branch.md R210). Sums are computed as natural numbers and narrowed at the end. -/

namespace Sys2Proof.Machine

/-- `parity(v)`: whether the number of one bits is even (R150; spec/00_scope.md R14). -/
def parity (v : Byte) : Bool :=
  ((v.getLsbD 7).toNat + (v.getLsbD 6).toNat + (v.getLsbD 5).toNat + (v.getLsbD 4).toNat + (v.getLsbD 3).toNat +
    (v.getLsbD 2).toNat + (v.getLsbD 1).toNat + (v.getLsbD 0).toNat) % 2 == 0

/-- `zsp(res)` (R150): Z, S and P of a result, beside a given CY and AC. -/
def zsp (res : Byte) (cy ac : Bool) : Flags where
  z := res == 0
  s := res.getLsbD 7
  p := parity res
  cy := cy
  ac := ac

/-- A result byte and the five flags that go with it. -/
structure AluResult where
  res : Byte
  flags : Flags
  deriving DecidableEq, Repr

/-- `add8(a, b, cin)` (R151): CY is the carry out of bit 7, AC the carry out of bit 3. -/
def add8 (a b : Byte) (cin : Bool) : AluResult :=
  let sum := a.toNat + b.toNat + cin.toNat
  let res := BitVec.ofNat 8 sum
  ⟨res, zsp res (decide (256 ≤ sum)) (decide (16 ≤ a.toNat % 16 + b.toNat % 16 + cin.toNat))⟩

/-- `sub8(a, b, bin)` (R152): the complement of `b` is added with the carry-in inverted. CY is the borrow, AC the carry
out of bit 3 of the addition performed. -/
def sub8 (a b : Byte) (bin : Bool) : AluResult :=
  let nb := 255 - b.toNat
  let sum := a.toNat + nb + (1 - bin.toNat)
  let res := BitVec.ofNat 8 sum
  ⟨res, zsp res (!decide (256 ≤ sum)) (decide (16 ≤ a.toNat % 16 + nb % 16 + (1 - bin.toNat)))⟩

/-- ANA (spec/42_logical.md R180, R181): CY is cleared, AC is bit 3 of the OR of the operands. -/
def and8 (a v : Byte) : AluResult := ⟨a &&& v, zsp (a &&& v) false ((a ||| v).getLsbD 3)⟩

/-- XRA (spec/42_logical.md R180, R183): CY and AC are cleared. -/
def xor8 (a v : Byte) : AluResult := ⟨a ^^^ v, zsp (a ^^^ v) false false⟩

/-- ORA (spec/42_logical.md R180, R185): CY and AC are cleared. -/
def or8 (a v : Byte) : AluResult := ⟨a ||| v, zsp (a ||| v) false false⟩

/-- INR (R161): AC is the carry out of bit 3, CY is kept. -/
def inc8 (f : Flags) (v : Byte) : AluResult :=
  let res := v + 1
  ⟨res, zsp res f.cy (v.toNat % 16 == 15)⟩

/-- DCR (R163): AC is 1 when no borrow from bit 4 was needed, CY is kept. -/
def dec8 (f : Flags) (v : Byte) : AluResult :=
  let res := v - 1
  ⟨res, zsp res f.cy (v.toNat % 16 != 0)⟩

/-- DAA (R168): both corrections are found on the old A and added at once. CY says whether the high one was applied; the
carry of the addition is dropped. -/
def daa8 (f : Flags) (a : Byte) : AluResult :=
  let lsb := a.toNat % 16
  let msb := a.toNat / 16
  let low : Bool := f.ac || decide (9 < lsb)
  let high : Bool := f.cy || decide (9 < msb) || (decide (9 ≤ msb) && decide (9 < lsb))
  let correction : Byte := (if high then 0x60 else 0x00) + (if low then 0x06 else 0x00)
  let r := add8 a correction false
  ⟨r.res, { r.flags with cy := high }⟩

/-- The flag byte F (spec/10_state.md R30): `S ++ Z ++ 0 ++ AC ++ 0 ++ P ++ 1 ++ CY`. -/
def flagByte (f : Flags) : Byte :=
  BitVec.ofBool f.s ++ BitVec.ofBool f.z ++ 0#1 ++ BitVec.ofBool f.ac ++ 0#1 ++ BitVec.ofBool f.p ++ 1#1 ++
    BitVec.ofBool f.cy

/-- The flags of a popped byte (spec/10_state.md R30, spec/44_stack_io_control.md R244): bits 5, 3 and 1 are ignored. -/
def flagsOfByte (v : Byte) : Flags where
  s := v.getLsbD 7
  z := v.getLsbD 6
  ac := v.getLsbD 4
  p := v.getLsbD 2
  cy := v.getLsbD 0

/-- `cond(CCC)` (spec/43_branch.md R210, spec/30_encoding.md R96). -/
def Flags.holds (f : Flags) : Cond → Bool
  | .nz => !f.z
  | .z => f.z
  | .nc => !f.cy
  | .c => f.cy
  | .po => !f.p
  | .pe => f.p
  | .p => !f.s
  | .m => f.s

end Sys2Proof.Machine
end

