-- ==== Sys2Proof/WellFormed.lean ====
section
/-! DEFINITION. Which terms of Instr are instructions of the machine. Every operand value is legal
(spec/30_encoding.md R106) and every operand's width is in its type, so one check is left: the twelve undocumented
bytes are no instructions (R105). -/

namespace Sys2Proof

/-- The twelve terms that stand for bytes without an instruction (spec/30_encoding.md R105). -/
def Instr.undocumented : List Instr :=
  [.undocumented08, .undocumented10, .undocumented18, .undocumented20, .undocumented28, .undocumented30,
   .undocumented38, .undocumentedCB, .undocumentedD9, .undocumentedDD, .undocumentedED, .undocumentedFD]

/-- A documented instruction: one of the 244 of spec/30_encoding.md R104, with any operand value (R106). -/
def Instr.wellFormed (i : Instr) : Bool := !(Instr.undocumented.contains i)

end Sys2Proof
end

