-- ==== Sys2Proof/Decode.lean ====
section
/-! DEFINITION. The decoder (spec/30_encoding.md R90 to R107), total on any bytes, and after it the encoder. The decoder
reads the fields of the opcode byte as R93 names them and follows the patterns of R100 to R103; the encoder is written
apart from it, from the opcode values of R104 and spec/opcode_table.json. -/

namespace Sys2Proof

/-! ## Byte order -/

/-- `lo(w) = w[7:0]` (spec/00_scope.md R13). -/
def lowByte (w : Word) : Byte := w.extractLsb' 0 8

/-- `hi(w) = w[15:8]` (spec/00_scope.md R13). -/
def highByte (w : Word) : Byte := w.extractLsb' 8 8

/-- `hi ++ lo`: the word with `hi` in bits 15 to 8 and `lo` in bits 7 to 0 (spec/00_scope.md R13). -/
def joinBytes (hi lo : Byte) : Word := hi ++ lo

/-! ## The fields of the opcode byte (R93) and what their codes name (R94 to R97) -/

/-- `op[5:3]`: the field DDD, ALU, CCC or NNN. -/
def fieldDDD (op : Byte) : Fin 8 := ⟨op.toNat / 8 % 8, Nat.mod_lt _ (by decide)⟩

/-- `op[2:0]`: the field SSS. -/
def fieldSSS (op : Byte) : Fin 8 := ⟨op.toNat % 8, Nat.mod_lt _ (by decide)⟩

/-- `op[7:6]`: the quadrant QQ. -/
def fieldQQ (op : Byte) : Fin 4 := ⟨op.toNat / 64 % 4, Nat.mod_lt _ (by decide)⟩

/-- `op[5:4]`: the field RP, from `op[5:3]`. -/
def fieldRP (ddd : Fin 8) : Fin 4 := ⟨ddd.val / 2 % 4, Nat.mod_lt _ (by decide)⟩

/-- The operand of a code DDD or SSS (R94). -/
def Operand.ofCode : Fin 8 → Operand
  | 0 => .reg .b
  | 1 => .reg .c
  | 2 => .reg .d
  | 3 => .reg .e
  | 4 => .reg .h
  | 5 => .reg .l
  | 6 => .m
  | 7 => .reg .a

/-- The code of an operand (R94). -/
def Operand.code : Operand → Nat
  | .reg .b => 0
  | .reg .c => 1
  | .reg .d => 2
  | .reg .e => 3
  | .reg .h => 4
  | .reg .l => 5
  | .m => 6
  | .reg .a => 7

/-- The pair of a code RP in LXI, INX, DCX and DAD (R95). -/
def RegPair.ofCode : Fin 4 → RegPair
  | 0 => .bc
  | 1 => .de
  | 2 => .hl
  | 3 => .sp

/-- The code RP of a pair (R95). -/
def RegPair.code : RegPair → Nat
  | .bc => 0
  | .de => 1
  | .hl => 2
  | .sp => 3

/-- The pair of a code RP in PUSH and POP (R95). -/
def StackPair.ofCode : Fin 4 → StackPair
  | 0 => .bc
  | 1 => .de
  | 2 => .hl
  | 3 => .psw

/-- The code RP of a pair in PUSH and POP (R95). -/
def StackPair.code : StackPair → Nat
  | .bc => 0
  | .de => 1
  | .hl => 2
  | .psw => 3

/-- The bit R of STAX and LDAX (R93; spec/40_data_transfer.md R132, R133). -/
def IndexPair.code : IndexPair → Nat
  | .bc => 0
  | .de => 1

/-- The condition of a code CCC (R96). -/
def Cond.ofCode : Fin 8 → Cond
  | 0 => .nz
  | 1 => .z
  | 2 => .nc
  | 3 => .c
  | 4 => .po
  | 5 => .pe
  | 6 => .p
  | 7 => .m

/-- The code CCC of a condition (R96). -/
def Cond.code : Cond → Nat
  | .nz => 0
  | .z => 1
  | .nc => 2
  | .c => 3
  | .po => 4
  | .pe => 5
  | .p => 6
  | .m => 7

/-- The operation of a code ALU (R97). -/
def AluOp.ofCode : Fin 8 → AluOp
  | 0 => .add
  | 1 => .adc
  | 2 => .sub
  | 3 => .sbb
  | 4 => .ana
  | 5 => .xra
  | 6 => .ora
  | 7 => .cmp

/-- The code ALU of an operation (R97). -/
def AluOp.code : AluOp → Nat
  | .add => 0
  | .adc => 1
  | .sub => 2
  | .sbb => 3
  | .ana => 4
  | .xra => 5
  | .ora => 6
  | .cmp => 7

/-! ## The instructions of a pattern with fields (R100 to R103) -/

/-- `01DDDSSS` (R101): MOV, and HLT in the slot of MOV M,M. -/
def Instr.ofMov : Operand → Operand → Instr
  | .reg .b, .reg .b => .movBB
  | .reg .b, .reg .c => .movBC
  | .reg .b, .reg .d => .movBD
  | .reg .b, .reg .e => .movBE
  | .reg .b, .reg .h => .movBH
  | .reg .b, .reg .l => .movBL
  | .reg .b, .m => .movBM
  | .reg .b, .reg .a => .movBA
  | .reg .c, .reg .b => .movCB
  | .reg .c, .reg .c => .movCC
  | .reg .c, .reg .d => .movCD
  | .reg .c, .reg .e => .movCE
  | .reg .c, .reg .h => .movCH
  | .reg .c, .reg .l => .movCL
  | .reg .c, .m => .movCM
  | .reg .c, .reg .a => .movCA
  | .reg .d, .reg .b => .movDB
  | .reg .d, .reg .c => .movDC
  | .reg .d, .reg .d => .movDD
  | .reg .d, .reg .e => .movDE
  | .reg .d, .reg .h => .movDH
  | .reg .d, .reg .l => .movDL
  | .reg .d, .m => .movDM
  | .reg .d, .reg .a => .movDA
  | .reg .e, .reg .b => .movEB
  | .reg .e, .reg .c => .movEC
  | .reg .e, .reg .d => .movED
  | .reg .e, .reg .e => .movEE
  | .reg .e, .reg .h => .movEH
  | .reg .e, .reg .l => .movEL
  | .reg .e, .m => .movEM
  | .reg .e, .reg .a => .movEA
  | .reg .h, .reg .b => .movHB
  | .reg .h, .reg .c => .movHC
  | .reg .h, .reg .d => .movHD
  | .reg .h, .reg .e => .movHE
  | .reg .h, .reg .h => .movHH
  | .reg .h, .reg .l => .movHL
  | .reg .h, .m => .movHM
  | .reg .h, .reg .a => .movHA
  | .reg .l, .reg .b => .movLB
  | .reg .l, .reg .c => .movLC
  | .reg .l, .reg .d => .movLD
  | .reg .l, .reg .e => .movLE
  | .reg .l, .reg .h => .movLH
  | .reg .l, .reg .l => .movLL
  | .reg .l, .m => .movLM
  | .reg .l, .reg .a => .movLA
  | .m, .reg .b => .movMB
  | .m, .reg .c => .movMC
  | .m, .reg .d => .movMD
  | .m, .reg .e => .movME
  | .m, .reg .h => .movMH
  | .m, .reg .l => .movML
  | .m, .m => .hlt
  | .m, .reg .a => .movMA
  | .reg .a, .reg .b => .movAB
  | .reg .a, .reg .c => .movAC
  | .reg .a, .reg .d => .movAD
  | .reg .a, .reg .e => .movAE
  | .reg .a, .reg .h => .movAH
  | .reg .a, .reg .l => .movAL
  | .reg .a, .m => .movAM
  | .reg .a, .reg .a => .movAA

/-- `10 ALU SSS` (R102): the ALU operation on A and an operand. -/
def Instr.ofAlu : AluOp → Operand → Instr
  | .add, .reg .b => .addB
  | .add, .reg .c => .addC
  | .add, .reg .d => .addD
  | .add, .reg .e => .addE
  | .add, .reg .h => .addH
  | .add, .reg .l => .addL
  | .add, .m => .addM
  | .add, .reg .a => .addA
  | .adc, .reg .b => .adcB
  | .adc, .reg .c => .adcC
  | .adc, .reg .d => .adcD
  | .adc, .reg .e => .adcE
  | .adc, .reg .h => .adcH
  | .adc, .reg .l => .adcL
  | .adc, .m => .adcM
  | .adc, .reg .a => .adcA
  | .sub, .reg .b => .subB
  | .sub, .reg .c => .subC
  | .sub, .reg .d => .subD
  | .sub, .reg .e => .subE
  | .sub, .reg .h => .subH
  | .sub, .reg .l => .subL
  | .sub, .m => .subM
  | .sub, .reg .a => .subA
  | .sbb, .reg .b => .sbbB
  | .sbb, .reg .c => .sbbC
  | .sbb, .reg .d => .sbbD
  | .sbb, .reg .e => .sbbE
  | .sbb, .reg .h => .sbbH
  | .sbb, .reg .l => .sbbL
  | .sbb, .m => .sbbM
  | .sbb, .reg .a => .sbbA
  | .ana, .reg .b => .anaB
  | .ana, .reg .c => .anaC
  | .ana, .reg .d => .anaD
  | .ana, .reg .e => .anaE
  | .ana, .reg .h => .anaH
  | .ana, .reg .l => .anaL
  | .ana, .m => .anaM
  | .ana, .reg .a => .anaA
  | .xra, .reg .b => .xraB
  | .xra, .reg .c => .xraC
  | .xra, .reg .d => .xraD
  | .xra, .reg .e => .xraE
  | .xra, .reg .h => .xraH
  | .xra, .reg .l => .xraL
  | .xra, .m => .xraM
  | .xra, .reg .a => .xraA
  | .ora, .reg .b => .oraB
  | .ora, .reg .c => .oraC
  | .ora, .reg .d => .oraD
  | .ora, .reg .e => .oraE
  | .ora, .reg .h => .oraH
  | .ora, .reg .l => .oraL
  | .ora, .m => .oraM
  | .ora, .reg .a => .oraA
  | .cmp, .reg .b => .cmpB
  | .cmp, .reg .c => .cmpC
  | .cmp, .reg .d => .cmpD
  | .cmp, .reg .e => .cmpE
  | .cmp, .reg .h => .cmpH
  | .cmp, .reg .l => .cmpL
  | .cmp, .m => .cmpM
  | .cmp, .reg .a => .cmpA

/-- `11 ALU 110` (R103): the ALU operation on A and an immediate byte. -/
def Instr.ofAluImm : AluOp → Byte → Instr
  | .add, d8 => .adi d8
  | .adc, d8 => .aci d8
  | .sub, d8 => .sui d8
  | .sbb, d8 => .sbi d8
  | .ana, d8 => .ani d8
  | .xra, d8 => .xri d8
  | .ora, d8 => .ori d8
  | .cmp, d8 => .cpi d8

/-- `00DDD100` (R100): INR. -/
def Instr.ofInr : Operand → Instr
  | .reg .b => .inrB
  | .reg .c => .inrC
  | .reg .d => .inrD
  | .reg .e => .inrE
  | .reg .h => .inrH
  | .reg .l => .inrL
  | .m => .inrM
  | .reg .a => .inrA

/-- `00DDD101` (R100): DCR. -/
def Instr.ofDcr : Operand → Instr
  | .reg .b => .dcrB
  | .reg .c => .dcrC
  | .reg .d => .dcrD
  | .reg .e => .dcrE
  | .reg .h => .dcrH
  | .reg .l => .dcrL
  | .m => .dcrM
  | .reg .a => .dcrA

/-- `00DDD110` (R100): MVI. -/
def Instr.ofMvi : Operand → Byte → Instr
  | .reg .b, d8 => .mviB d8
  | .reg .c, d8 => .mviC d8
  | .reg .d, d8 => .mviD d8
  | .reg .e, d8 => .mviE d8
  | .reg .h, d8 => .mviH d8
  | .reg .l, d8 => .mviL d8
  | .m, d8 => .mviM d8
  | .reg .a, d8 => .mviA d8

/-- `00RP0001` (R100): LXI. -/
def Instr.ofLxi : RegPair → Word → Instr
  | .bc, d16 => .lxiB d16
  | .de, d16 => .lxiD d16
  | .hl, d16 => .lxiH d16
  | .sp, d16 => .lxiSp d16

/-- `00RP0011` (R100): INX. -/
def Instr.ofInx : RegPair → Instr
  | .bc => .inxB
  | .de => .inxD
  | .hl => .inxH
  | .sp => .inxSp

/-- `00RP1011` (R100): DCX. -/
def Instr.ofDcx : RegPair → Instr
  | .bc => .dcxB
  | .de => .dcxD
  | .hl => .dcxH
  | .sp => .dcxSp

/-- `00RP1001` (R100): DAD. -/
def Instr.ofDad : RegPair → Instr
  | .bc => .dadB
  | .de => .dadD
  | .hl => .dadH
  | .sp => .dadSp

/-- `000R0010` (R100): STAX. -/
def Instr.ofStax : IndexPair → Instr
  | .bc => .staxB
  | .de => .staxD

/-- `000R1010` (R100): LDAX. -/
def Instr.ofLdax : IndexPair → Instr
  | .bc => .ldaxB
  | .de => .ldaxD

/-- `11RP0101` (R103): PUSH. -/
def Instr.ofPush : StackPair → Instr
  | .bc => .pushB
  | .de => .pushD
  | .hl => .pushH
  | .psw => .pushPsw

/-- `11RP0001` (R103): POP. -/
def Instr.ofPop : StackPair → Instr
  | .bc => .popB
  | .de => .popD
  | .hl => .popH
  | .psw => .popPsw

/-- `11CCC010` (R103): the conditional jumps. -/
def Instr.ofJcc : Cond → Word → Instr
  | .nz, a16 => .jnz a16
  | .z, a16 => .jz a16
  | .nc, a16 => .jnc a16
  | .c, a16 => .jc a16
  | .po, a16 => .jpo a16
  | .pe, a16 => .jpe a16
  | .p, a16 => .jp a16
  | .m, a16 => .jm a16

/-- `11CCC100` (R103): the conditional calls. -/
def Instr.ofCcc : Cond → Word → Instr
  | .nz, a16 => .cnz a16
  | .z, a16 => .cz a16
  | .nc, a16 => .cnc a16
  | .c, a16 => .cc a16
  | .po, a16 => .cpo a16
  | .pe, a16 => .cpe a16
  | .p, a16 => .cp a16
  | .m, a16 => .cm a16

/-- `11CCC000` (R103): the conditional returns. -/
def Instr.ofRcc : Cond → Instr
  | .nz => .rnz
  | .z => .rz
  | .nc => .rnc
  | .c => .rc
  | .po => .rpo
  | .pe => .rpe
  | .p => .rp
  | .m => .rm

/-- `11NNN111` (R103): RST. -/
def Instr.ofRst : Fin 8 → Instr
  | 0 => .rst0
  | 1 => .rst1
  | 2 => .rst2
  | 3 => .rst3
  | 4 => .rst4
  | 5 => .rst5
  | 6 => .rst6
  | 7 => .rst7


/-! ## The four quadrants -/

/-- Quadrant `00`, column SSS = 000: NOP, and seven undocumented bytes (R100). -/
def decodeNop : Fin 8 → Instr
  | 0 => .nop
  | 1 => .undocumented08
  | 2 => .undocumented10
  | 3 => .undocumented18
  | 4 => .undocumented20
  | 5 => .undocumented28
  | 6 => .undocumented30
  | 7 => .undocumented38

/-- Quadrant `00`, column SSS = 010: the loads and stores of A and HL (R100). -/
def decodeLoadStore (a16 : Word) : Fin 8 → Instr
  | 0 => .ofStax .bc
  | 1 => .ofLdax .bc
  | 2 => .ofStax .de
  | 3 => .ofLdax .de
  | 4 => .shld a16
  | 5 => .lhld a16
  | 6 => .sta a16
  | 7 => .lda a16

/-- Quadrant `00`, column SSS = 111: the rotates and the operations on A and CY (R100). -/
def decodeAccumulator : Fin 8 → Instr
  | 0 => .rlc
  | 1 => .rrc
  | 2 => .ral
  | 3 => .rar
  | 4 => .daa
  | 5 => .cma
  | 6 => .stc
  | 7 => .cmc

/-- Quadrant `00` (R100). In the columns of the register pairs the bit `op[3]` selects between two instructions. -/
def decodeQuadrant0 (ddd sss : Fin 8) (d8 : Byte) (d16 : Word) : Instr :=
  let rp := RegPair.ofCode (fieldRP ddd)
  let odd := ddd.val % 2 == 1
  match sss with
  | 0 => decodeNop ddd
  | 1 => if odd then .ofDad rp else .ofLxi rp d16
  | 2 => decodeLoadStore d16 ddd
  | 3 => if odd then .ofDcx rp else .ofInx rp
  | 4 => .ofInr (.ofCode ddd)
  | 5 => .ofDcr (.ofCode ddd)
  | 6 => .ofMvi (.ofCode ddd) d8
  | 7 => decodeAccumulator ddd

/-- Quadrant `11`, column SSS = 001: POP, and RET, PCHL, SPHL and an undocumented byte (R103). -/
def decodePop : Fin 8 → Instr
  | 0 => .ofPop .bc
  | 1 => .ret
  | 2 => .ofPop .de
  | 3 => .undocumentedD9
  | 4 => .ofPop .hl
  | 5 => .pchl
  | 6 => .ofPop .psw
  | 7 => .sphl

/-- Quadrant `11`, column SSS = 011: JMP, the ports, the exchanges, DI, EI and an undocumented byte (R103). -/
def decodeControl (p8 : Byte) (a16 : Word) : Fin 8 → Instr
  | 0 => .jmp a16
  | 1 => .undocumentedCB
  | 2 => .outPort p8
  | 3 => .inPort p8
  | 4 => .xthl
  | 5 => .xchg
  | 6 => .di
  | 7 => .ei

/-- Quadrant `11`, column SSS = 101: PUSH, CALL and three undocumented bytes (R103). -/
def decodePush (a16 : Word) : Fin 8 → Instr
  | 0 => .ofPush .bc
  | 1 => .call a16
  | 2 => .ofPush .de
  | 3 => .undocumentedDD
  | 4 => .ofPush .hl
  | 5 => .undocumentedED
  | 6 => .ofPush .psw
  | 7 => .undocumentedFD

/-- Quadrant `11` (R103). -/
def decodeQuadrant3 (ddd sss : Fin 8) (d8 : Byte) (d16 : Word) : Instr :=
  match sss with
  | 0 => .ofRcc (.ofCode ddd)
  | 1 => decodePop ddd
  | 2 => .ofJcc (.ofCode ddd) d16
  | 3 => decodeControl d8 d16 ddd
  | 4 => .ofCcc (.ofCode ddd) d16
  | 5 => decodePush d16 ddd
  | 6 => .ofAluImm (.ofCode ddd) d8
  | 7 => .ofRst ddd

/-! ## The decoder -/

/-- The instruction of the three fetched bytes (R104, R107): every opcode byte has one, and only the bytes that are its
operands matter. `d8 = p8 = b1` and `d16 = a16 = b2 ++ b1` (R98). -/
def decodeOp (op b1 b2 : Byte) : Instr :=
  let ddd := fieldDDD op
  let sss := fieldSSS op
  let d16 := joinBytes b2 b1
  match fieldQQ op with
  | 0 => decodeQuadrant0 ddd sss b1 d16
  | 1 => .ofMov (.ofCode ddd) (.ofCode sss)
  | 2 => .ofAlu (.ofCode ddd) (.ofCode sss)
  | 3 => decodeQuadrant3 ddd sss b1 d16

/-- The twelve undocumented opcode bytes (R105). -/
def undocumentedOpcodes : List Byte :=
  [0x08, 0x10, 0x18, 0x20, 0x28, 0x30, 0x38, 0xCB, 0xD9, 0xDD, 0xED, 0xFD]

/-- Whether a byte is one of the 244 documented opcode bytes (R105, R106). -/
def documented (op : Byte) : Bool := !(undocumentedOpcodes.contains op)

/-- How many operand bytes follow the opcode byte: `len(op) - 1` (R92). An undocumented byte has no length there; it is
taken alone, as its row of spec/opcode_table.json has it (log entry 4). -/
def operandCount (op : Byte) : Nat :=
  if op &&& 0xCF = 0x01 ∨ op &&& 0xE7 = 0x22 ∨ op &&& 0xC7 = 0xC2 ∨ op &&& 0xC7 = 0xC4 ∨ op = 0xC3 ∨ op = 0xCD then 2
  else if op &&& 0xC7 = 0x06 ∨ op &&& 0xC7 = 0xC6 ∨ op = 0xD3 ∨ op = 0xDB then 1
  else 0

/-- Why a list of bytes holds no whole instruction. The step never meets one: its fetch has three bytes (R110). -/
inductive DecodeError where
  /-- no byte at all -/
  | noOpcode
  /-- fewer operand bytes than the opcode byte needs -/
  | operandBytesMissing (op : Byte)
  deriving DecidableEq, Repr

/-- Decode the first instruction of a list of bytes: the instruction and the bytes after it (R90, R91). -/
def decode : List Byte → Except DecodeError (Instr × List Byte)
  | [] => .error .noOpcode
  | op :: rest =>
    if rest.length < operandCount op then .error (.operandBytesMissing op)
    else .ok (decodeOp op (rest.getD 0 0) (rest.getD 1 0), rest.drop (operandCount op))

/-- The three bytes of an instruction given as a number whose bit 0 is the least significant bit of the first byte;
the bits from `nbits` on are zero. -/
def tableBytes (nbits w : Nat) : List Byte :=
  let v := w % 2 ^ nbits
  [BitVec.ofNat 8 v, BitVec.ofNat 8 (v / 256), BitVec.ofNat 8 (v / 65536)]

/-- What the decoder reads from such a number (the bytes in the order of their addresses). -/
def decodeTableWord (nbits w : Nat) : Option Instr :=
  match decode (tableBytes nbits w) with
  | .ok (i, _) => some i
  | .error _ => none

/-! ## The encoder -/

/-- The opcode byte of an instruction (spec/30_encoding.md R104; the `encoding` column of spec/opcode_table.json). -/
def Instr.opcode : Instr → Byte
  | .nop => 0b00000000
  | .lxiB _ => 0b00000001
  | .staxB => 0b00000010
  | .inxB => 0b00000011
  | .inrB => 0b00000100
  | .dcrB => 0b00000101
  | .mviB _ => 0b00000110
  | .rlc => 0b00000111
  | .undocumented08 => 0b00001000
  | .dadB => 0b00001001
  | .ldaxB => 0b00001010
  | .dcxB => 0b00001011
  | .inrC => 0b00001100
  | .dcrC => 0b00001101
  | .mviC _ => 0b00001110
  | .rrc => 0b00001111
  | .undocumented10 => 0b00010000
  | .lxiD _ => 0b00010001
  | .staxD => 0b00010010
  | .inxD => 0b00010011
  | .inrD => 0b00010100
  | .dcrD => 0b00010101
  | .mviD _ => 0b00010110
  | .ral => 0b00010111
  | .undocumented18 => 0b00011000
  | .dadD => 0b00011001
  | .ldaxD => 0b00011010
  | .dcxD => 0b00011011
  | .inrE => 0b00011100
  | .dcrE => 0b00011101
  | .mviE _ => 0b00011110
  | .rar => 0b00011111
  | .undocumented20 => 0b00100000
  | .lxiH _ => 0b00100001
  | .shld _ => 0b00100010
  | .inxH => 0b00100011
  | .inrH => 0b00100100
  | .dcrH => 0b00100101
  | .mviH _ => 0b00100110
  | .daa => 0b00100111
  | .undocumented28 => 0b00101000
  | .dadH => 0b00101001
  | .lhld _ => 0b00101010
  | .dcxH => 0b00101011
  | .inrL => 0b00101100
  | .dcrL => 0b00101101
  | .mviL _ => 0b00101110
  | .cma => 0b00101111
  | .undocumented30 => 0b00110000
  | .lxiSp _ => 0b00110001
  | .sta _ => 0b00110010
  | .inxSp => 0b00110011
  | .inrM => 0b00110100
  | .dcrM => 0b00110101
  | .mviM _ => 0b00110110
  | .stc => 0b00110111
  | .undocumented38 => 0b00111000
  | .dadSp => 0b00111001
  | .lda _ => 0b00111010
  | .dcxSp => 0b00111011
  | .inrA => 0b00111100
  | .dcrA => 0b00111101
  | .mviA _ => 0b00111110
  | .cmc => 0b00111111
  | .movBB => 0b01000000
  | .movBC => 0b01000001
  | .movBD => 0b01000010
  | .movBE => 0b01000011
  | .movBH => 0b01000100
  | .movBL => 0b01000101
  | .movBM => 0b01000110
  | .movBA => 0b01000111
  | .movCB => 0b01001000
  | .movCC => 0b01001001
  | .movCD => 0b01001010
  | .movCE => 0b01001011
  | .movCH => 0b01001100
  | .movCL => 0b01001101
  | .movCM => 0b01001110
  | .movCA => 0b01001111
  | .movDB => 0b01010000
  | .movDC => 0b01010001
  | .movDD => 0b01010010
  | .movDE => 0b01010011
  | .movDH => 0b01010100
  | .movDL => 0b01010101
  | .movDM => 0b01010110
  | .movDA => 0b01010111
  | .movEB => 0b01011000
  | .movEC => 0b01011001
  | .movED => 0b01011010
  | .movEE => 0b01011011
  | .movEH => 0b01011100
  | .movEL => 0b01011101
  | .movEM => 0b01011110
  | .movEA => 0b01011111
  | .movHB => 0b01100000
  | .movHC => 0b01100001
  | .movHD => 0b01100010
  | .movHE => 0b01100011
  | .movHH => 0b01100100
  | .movHL => 0b01100101
  | .movHM => 0b01100110
  | .movHA => 0b01100111
  | .movLB => 0b01101000
  | .movLC => 0b01101001
  | .movLD => 0b01101010
  | .movLE => 0b01101011
  | .movLH => 0b01101100
  | .movLL => 0b01101101
  | .movLM => 0b01101110
  | .movLA => 0b01101111
  | .movMB => 0b01110000
  | .movMC => 0b01110001
  | .movMD => 0b01110010
  | .movME => 0b01110011
  | .movMH => 0b01110100
  | .movML => 0b01110101
  | .hlt => 0b01110110
  | .movMA => 0b01110111
  | .movAB => 0b01111000
  | .movAC => 0b01111001
  | .movAD => 0b01111010
  | .movAE => 0b01111011
  | .movAH => 0b01111100
  | .movAL => 0b01111101
  | .movAM => 0b01111110
  | .movAA => 0b01111111
  | .addB => 0b10000000
  | .addC => 0b10000001
  | .addD => 0b10000010
  | .addE => 0b10000011
  | .addH => 0b10000100
  | .addL => 0b10000101
  | .addM => 0b10000110
  | .addA => 0b10000111
  | .adcB => 0b10001000
  | .adcC => 0b10001001
  | .adcD => 0b10001010
  | .adcE => 0b10001011
  | .adcH => 0b10001100
  | .adcL => 0b10001101
  | .adcM => 0b10001110
  | .adcA => 0b10001111
  | .subB => 0b10010000
  | .subC => 0b10010001
  | .subD => 0b10010010
  | .subE => 0b10010011
  | .subH => 0b10010100
  | .subL => 0b10010101
  | .subM => 0b10010110
  | .subA => 0b10010111
  | .sbbB => 0b10011000
  | .sbbC => 0b10011001
  | .sbbD => 0b10011010
  | .sbbE => 0b10011011
  | .sbbH => 0b10011100
  | .sbbL => 0b10011101
  | .sbbM => 0b10011110
  | .sbbA => 0b10011111
  | .anaB => 0b10100000
  | .anaC => 0b10100001
  | .anaD => 0b10100010
  | .anaE => 0b10100011
  | .anaH => 0b10100100
  | .anaL => 0b10100101
  | .anaM => 0b10100110
  | .anaA => 0b10100111
  | .xraB => 0b10101000
  | .xraC => 0b10101001
  | .xraD => 0b10101010
  | .xraE => 0b10101011
  | .xraH => 0b10101100
  | .xraL => 0b10101101
  | .xraM => 0b10101110
  | .xraA => 0b10101111
  | .oraB => 0b10110000
  | .oraC => 0b10110001
  | .oraD => 0b10110010
  | .oraE => 0b10110011
  | .oraH => 0b10110100
  | .oraL => 0b10110101
  | .oraM => 0b10110110
  | .oraA => 0b10110111
  | .cmpB => 0b10111000
  | .cmpC => 0b10111001
  | .cmpD => 0b10111010
  | .cmpE => 0b10111011
  | .cmpH => 0b10111100
  | .cmpL => 0b10111101
  | .cmpM => 0b10111110
  | .cmpA => 0b10111111
  | .rnz => 0b11000000
  | .popB => 0b11000001
  | .jnz _ => 0b11000010
  | .jmp _ => 0b11000011
  | .cnz _ => 0b11000100
  | .pushB => 0b11000101
  | .adi _ => 0b11000110
  | .rst0 => 0b11000111
  | .rz => 0b11001000
  | .ret => 0b11001001
  | .jz _ => 0b11001010
  | .undocumentedCB => 0b11001011
  | .cz _ => 0b11001100
  | .call _ => 0b11001101
  | .aci _ => 0b11001110
  | .rst1 => 0b11001111
  | .rnc => 0b11010000
  | .popD => 0b11010001
  | .jnc _ => 0b11010010
  | .outPort _ => 0b11010011
  | .cnc _ => 0b11010100
  | .pushD => 0b11010101
  | .sui _ => 0b11010110
  | .rst2 => 0b11010111
  | .rc => 0b11011000
  | .undocumentedD9 => 0b11011001
  | .jc _ => 0b11011010
  | .inPort _ => 0b11011011
  | .cc _ => 0b11011100
  | .undocumentedDD => 0b11011101
  | .sbi _ => 0b11011110
  | .rst3 => 0b11011111
  | .rpo => 0b11100000
  | .popH => 0b11100001
  | .jpo _ => 0b11100010
  | .xthl => 0b11100011
  | .cpo _ => 0b11100100
  | .pushH => 0b11100101
  | .ani _ => 0b11100110
  | .rst4 => 0b11100111
  | .rpe => 0b11101000
  | .pchl => 0b11101001
  | .jpe _ => 0b11101010
  | .xchg => 0b11101011
  | .cpe _ => 0b11101100
  | .undocumentedED => 0b11101101
  | .xri _ => 0b11101110
  | .rst5 => 0b11101111
  | .rp => 0b11110000
  | .popPsw => 0b11110001
  | .jp _ => 0b11110010
  | .di => 0b11110011
  | .cp _ => 0b11110100
  | .pushPsw => 0b11110101
  | .ori _ => 0b11110110
  | .rst6 => 0b11110111
  | .rm => 0b11111000
  | .sphl => 0b11111001
  | .jm _ => 0b11111010
  | .ei => 0b11111011
  | .cm _ => 0b11111100
  | .undocumentedFD => 0b11111101
  | .cpi _ => 0b11111110
  | .rst7 => 0b11111111

/-- The operand bytes after the opcode byte: `d8` or `p8`, or a word with its low byte first (R91, R98). -/
def Instr.operandBytes : Instr → List Byte
  | .nop => []
  | .lxiB d16 => [lowByte d16, highByte d16]
  | .staxB => []
  | .inxB => []
  | .inrB => []
  | .dcrB => []
  | .mviB d8 => [d8]
  | .rlc => []
  | .undocumented08 => []
  | .dadB => []
  | .ldaxB => []
  | .dcxB => []
  | .inrC => []
  | .dcrC => []
  | .mviC d8 => [d8]
  | .rrc => []
  | .undocumented10 => []
  | .lxiD d16 => [lowByte d16, highByte d16]
  | .staxD => []
  | .inxD => []
  | .inrD => []
  | .dcrD => []
  | .mviD d8 => [d8]
  | .ral => []
  | .undocumented18 => []
  | .dadD => []
  | .ldaxD => []
  | .dcxD => []
  | .inrE => []
  | .dcrE => []
  | .mviE d8 => [d8]
  | .rar => []
  | .undocumented20 => []
  | .lxiH d16 => [lowByte d16, highByte d16]
  | .shld a16 => [lowByte a16, highByte a16]
  | .inxH => []
  | .inrH => []
  | .dcrH => []
  | .mviH d8 => [d8]
  | .daa => []
  | .undocumented28 => []
  | .dadH => []
  | .lhld a16 => [lowByte a16, highByte a16]
  | .dcxH => []
  | .inrL => []
  | .dcrL => []
  | .mviL d8 => [d8]
  | .cma => []
  | .undocumented30 => []
  | .lxiSp d16 => [lowByte d16, highByte d16]
  | .sta a16 => [lowByte a16, highByte a16]
  | .inxSp => []
  | .inrM => []
  | .dcrM => []
  | .mviM d8 => [d8]
  | .stc => []
  | .undocumented38 => []
  | .dadSp => []
  | .lda a16 => [lowByte a16, highByte a16]
  | .dcxSp => []
  | .inrA => []
  | .dcrA => []
  | .mviA d8 => [d8]
  | .cmc => []
  | .movBB => []
  | .movBC => []
  | .movBD => []
  | .movBE => []
  | .movBH => []
  | .movBL => []
  | .movBM => []
  | .movBA => []
  | .movCB => []
  | .movCC => []
  | .movCD => []
  | .movCE => []
  | .movCH => []
  | .movCL => []
  | .movCM => []
  | .movCA => []
  | .movDB => []
  | .movDC => []
  | .movDD => []
  | .movDE => []
  | .movDH => []
  | .movDL => []
  | .movDM => []
  | .movDA => []
  | .movEB => []
  | .movEC => []
  | .movED => []
  | .movEE => []
  | .movEH => []
  | .movEL => []
  | .movEM => []
  | .movEA => []
  | .movHB => []
  | .movHC => []
  | .movHD => []
  | .movHE => []
  | .movHH => []
  | .movHL => []
  | .movHM => []
  | .movHA => []
  | .movLB => []
  | .movLC => []
  | .movLD => []
  | .movLE => []
  | .movLH => []
  | .movLL => []
  | .movLM => []
  | .movLA => []
  | .movMB => []
  | .movMC => []
  | .movMD => []
  | .movME => []
  | .movMH => []
  | .movML => []
  | .hlt => []
  | .movMA => []
  | .movAB => []
  | .movAC => []
  | .movAD => []
  | .movAE => []
  | .movAH => []
  | .movAL => []
  | .movAM => []
  | .movAA => []
  | .addB => []
  | .addC => []
  | .addD => []
  | .addE => []
  | .addH => []
  | .addL => []
  | .addM => []
  | .addA => []
  | .adcB => []
  | .adcC => []
  | .adcD => []
  | .adcE => []
  | .adcH => []
  | .adcL => []
  | .adcM => []
  | .adcA => []
  | .subB => []
  | .subC => []
  | .subD => []
  | .subE => []
  | .subH => []
  | .subL => []
  | .subM => []
  | .subA => []
  | .sbbB => []
  | .sbbC => []
  | .sbbD => []
  | .sbbE => []
  | .sbbH => []
  | .sbbL => []
  | .sbbM => []
  | .sbbA => []
  | .anaB => []
  | .anaC => []
  | .anaD => []
  | .anaE => []
  | .anaH => []
  | .anaL => []
  | .anaM => []
  | .anaA => []
  | .xraB => []
  | .xraC => []
  | .xraD => []
  | .xraE => []
  | .xraH => []
  | .xraL => []
  | .xraM => []
  | .xraA => []
  | .oraB => []
  | .oraC => []
  | .oraD => []
  | .oraE => []
  | .oraH => []
  | .oraL => []
  | .oraM => []
  | .oraA => []
  | .cmpB => []
  | .cmpC => []
  | .cmpD => []
  | .cmpE => []
  | .cmpH => []
  | .cmpL => []
  | .cmpM => []
  | .cmpA => []
  | .rnz => []
  | .popB => []
  | .jnz a16 => [lowByte a16, highByte a16]
  | .jmp a16 => [lowByte a16, highByte a16]
  | .cnz a16 => [lowByte a16, highByte a16]
  | .pushB => []
  | .adi d8 => [d8]
  | .rst0 => []
  | .rz => []
  | .ret => []
  | .jz a16 => [lowByte a16, highByte a16]
  | .undocumentedCB => []
  | .cz a16 => [lowByte a16, highByte a16]
  | .call a16 => [lowByte a16, highByte a16]
  | .aci d8 => [d8]
  | .rst1 => []
  | .rnc => []
  | .popD => []
  | .jnc a16 => [lowByte a16, highByte a16]
  | .outPort p8 => [p8]
  | .cnc a16 => [lowByte a16, highByte a16]
  | .pushD => []
  | .sui d8 => [d8]
  | .rst2 => []
  | .rc => []
  | .undocumentedD9 => []
  | .jc a16 => [lowByte a16, highByte a16]
  | .inPort p8 => [p8]
  | .cc a16 => [lowByte a16, highByte a16]
  | .undocumentedDD => []
  | .sbi d8 => [d8]
  | .rst3 => []
  | .rpo => []
  | .popH => []
  | .jpo a16 => [lowByte a16, highByte a16]
  | .xthl => []
  | .cpo a16 => [lowByte a16, highByte a16]
  | .pushH => []
  | .ani d8 => [d8]
  | .rst4 => []
  | .rpe => []
  | .pchl => []
  | .jpe a16 => [lowByte a16, highByte a16]
  | .xchg => []
  | .cpe a16 => [lowByte a16, highByte a16]
  | .undocumentedED => []
  | .xri d8 => [d8]
  | .rst5 => []
  | .rp => []
  | .popPsw => []
  | .jp a16 => [lowByte a16, highByte a16]
  | .di => []
  | .cp a16 => [lowByte a16, highByte a16]
  | .pushPsw => []
  | .ori d8 => [d8]
  | .rst6 => []
  | .rm => []
  | .sphl => []
  | .jm a16 => [lowByte a16, highByte a16]
  | .ei => []
  | .cm a16 => [lowByte a16, highByte a16]
  | .undocumentedFD => []
  | .cpi d8 => [d8]
  | .rst7 => []

/-- The bytes of an instruction, the opcode byte first (R91). -/
def encode (i : Instr) : List Byte := i.opcode :: i.operandBytes

end Sys2Proof
end

