-- ==== Sys2Proof/Machine/Ops.lean ====
section
/-! DEFINITION. The named operations over the state: the parameters, memory, registers, the program counter, the stack,
the port space, and taking the one exception of the machine. They are the primitives of spec/00_scope.md R14. -/

namespace Sys2Proof.Machine

/-- What a meaning answers. -/
abbrev Result := Host.Outcome State Fault Refusal

/-! ## The parameters (spec/00_scope.md R6 to R8) -/

/-- MEM_SIZE in bytes, a power of two from 4 to 65536 (R6). -/
def memSize (cfg : Config) : Nat := 4 * 2 ^ cfg.memDoublings.val

/-- Whether an opcode byte is in IMPLEMENTED: documented and not left out (R7). -/
def implemented (cfg : Config) (op : Byte) : Bool := documented op && !(cfg.withheld.contains op)

/-- Whether PC_LIMIT is set and PC has reached it (R8; spec/60_exceptions.md R275). The comparison is of the unreduced
16-bit PC. -/
def atPcLimit (s : State) : Bool :=
  match s.cfg.pcLimit with
  | none => false
  | some limit => decide (limit.val ≤ s.pc.toNat)

/-! ## The memory image (spec/20_memory.md R60 to R68) -/

/-- What an index without a cell reads as: memory is zero at reset (spec/10_state.md R40). -/
def Memory.blank : Byte := 0x00

/-- The byte at an index. -/
def Memory.read : Memory → Nat → Byte
  | [], _ => Memory.blank
  | cell :: rest, i => if cell.1 = i then cell.2 else Memory.read rest i

/-- Put a cell in its place by rising index. -/
def Memory.insert (i : Nat) (v : Byte) : Memory → Memory
  | [] => [(i, v)]
  | cell :: rest => if i < cell.1 then (i, v) :: cell :: rest else cell :: Memory.insert i v rest

/-- Write the byte at an index, keeping the canonical form. -/
def Memory.write (m : Memory) (i : Nat) (v : Byte) : Memory :=
  let others := m.filter (fun cell => cell.1 != i)
  if v = Memory.blank then others else Memory.insert i v others

/-- The canonical form: indices strictly rising, and no cell that holds what an unlisted index reads as. -/
abbrev Memory.wf (m : Memory) : Prop :=
  m.Pairwise (fun x y => x.1 < y.1) ∧ ∀ cell ∈ m, cell.2 ≠ Memory.blank

/-- The index of an address: `addr mod MEM_SIZE` (R61). -/
def State.index (s : State) (addr : Word) : Nat := addr.toNat % memSize s.cfg

/-- `MemRead(addr, 1)` (R61). No access is out of range and none faults (R62). -/
def memRead (s : State) (addr : Word) : Byte := Memory.read s.mem (s.index addr)

/-- `MemWrite(addr, 1, v)` (R61). All of memory is writable (R68). -/
def memWrite (addr : Word) (v : Byte) (s : State) : State :=
  { s with mem := Memory.write s.mem (s.index addr) v }

/-- `MemRead(addr, 2)`: the low byte at `addr`, the high byte at `addr + 1` mod 2^16 (R63, R64). -/
def memReadWord (s : State) (addr : Word) : Word := joinBytes (memRead s (addr + 1)) (memRead s addr)

/-- `MemWrite(addr, 2, w)`: the low byte at `addr`, then the high byte at `addr + 1` mod 2^16 (R63, R64, R67). -/
def memWriteWord (addr w : Word) (s : State) : State :=
  memWrite (addr + 1) (highByte w) (memWrite addr (lowByte w) s)

/-! ## Registers and pairs (spec/10_state.md R20 to R26) -/

/-- `x[c]`: read an 8-bit register (R20). -/
def State.reg (s : State) : Reg → Byte
  | .b => s.b
  | .c => s.c
  | .d => s.d
  | .e => s.e
  | .h => s.h
  | .l => s.l
  | .a => s.a

/-- `x[c] <- v`: write an 8-bit register (R20). None is hardwired. -/
def State.setReg (s : State) (r : Reg) (v : Byte) : State :=
  match r with
  | .b => { s with b := v }
  | .c => { s with c := v }
  | .d => { s with d := v }
  | .e => { s with e := v }
  | .h => { s with h := v }
  | .l => { s with l := v }
  | .a => { s with a := v }

/-- `BC = B ++ C` (R22). -/
def State.bc (s : State) : Word := joinBytes s.b s.c

/-- `DE = D ++ E` (R22). -/
def State.de (s : State) : Word := joinBytes s.d s.e

/-- `HL = H ++ L` (R22). -/
def State.hl (s : State) : Word := joinBytes s.h s.l

/-- `BC <- w` (R22; spec/00_scope.md R14). -/
def State.setBC (s : State) (w : Word) : State := { s with b := highByte w, c := lowByte w }

/-- `DE <- w` (R22; spec/00_scope.md R14). -/
def State.setDE (s : State) (w : Word) : State := { s with d := highByte w, e := lowByte w }

/-- `HL <- w` (R22; spec/00_scope.md R14). -/
def State.setHL (s : State) (w : Word) : State := { s with h := highByte w, l := lowByte w }

/-- `rp[k]`: read a pair of the SP-table (R22; spec/30_encoding.md R95). -/
def State.pair (s : State) : RegPair → Word
  | .bc => s.bc
  | .de => s.de
  | .hl => s.hl
  | .sp => s.sp

/-- `rp[k] <- w`: write a pair of the SP-table (R22; spec/30_encoding.md R95). -/
def State.setPair (s : State) (k : RegPair) (w : Word) : State :=
  match k with
  | .bc => s.setBC w
  | .de => s.setDE w
  | .hl => s.setHL w
  | .sp => { s with sp := w }

/-! ## The program counter and the fetch (spec/10_state.md R25, spec/30_encoding.md R110 to R112) -/

/-- The three bytes of a fetch. -/
structure Fetched where
  op : Byte
  b1 : Byte
  b2 : Byte
  deriving DecidableEq, Repr

/-- Stage 2 of the step: read the bytes at PC, PC + 1 and PC + 2 (R110, R112). -/
def fetch (s : State) : Fetched where
  op := memRead s s.pc
  b1 := memRead s (s.pc + 1)
  b2 := memRead s (s.pc + 2)

/-- Stage 3 of the step: PC moves past the opcode byte before dispatch (R110). -/
def preIncrement (s : State) : State := { s with pc := s.pc + 1 }

/-- `pc0`: the address of the opcode byte, as the execute phase finds it from the pre-incremented PC (R110). -/
def State.opcodeAddress (s : State) : Word := s.pc - 1

/-- `next` of an instruction with `k` operand bytes, from the pre-incremented PC (R110, R111). -/
def State.nextAddress (s : State) (k : Nat) : Word := s.pc + BitVec.ofNat 16 k

/-- `pc <- target`. -/
def goTo (target : Word) (s : State) : State := { s with pc := target }

/-- `pc <- next` for an instruction with `k` operand bytes (R111). -/
def advance (k : Nat) (s : State) : State := goTo (s.nextAddress k) s

/-! ## The stack (spec/20_memory.md R76) -/

/-- `push16(w)`: high byte at SP - 1, then low byte at SP - 2, then SP - 2. -/
def push16 (w : Word) (s : State) : State :=
  let s1 := memWrite (s.sp - 1) (highByte w) s
  let s2 := memWrite (s.sp - 2) (lowByte w) s1
  { s2 with sp := s.sp - 2 }

/-- The word that `pop16()` returns: low byte at SP, high byte at SP + 1. -/
def topOfStack (s : State) : Word := memReadWord s s.sp

/-- The state that `pop16()` leaves: SP + 2. -/
def dropWord (s : State) : State := { s with sp := s.sp + 2 }

/-! ## The port space (spec/20_memory.md R69) -/

/-- `IoRead(p)`: the byte IO_ENV answers now, a free value (log entry 2). -/
def ioRead (s : State) (port : Byte) : Byte := Config.ioRead s.io.length port

/-- Append a port access to the history (spec/10_state.md R35). -/
def recordIo (e : IoEvent) (s : State) : State := { s with io := s.io ++ [e] }

/-! ## Halting and the one exception (spec/60_exceptions.md R270 to R279) -/

/-- `halt`: the clean end, of HLT and of the PC bound (R275, R276). -/
def haltNormal (s : State) : State := { s with run := .haltedNormal }

/-- TAKING THE EXCEPTION. `raise UnimplementedOpcode(op, addr)`: record the byte and its address and end the run. PC
keeps the pre-increment that the step has done, and nothing else changes (R271, R273). There is no vector and no
handler, and no instruction returns from it (R279). -/
def raiseUnimplementedOpcode (op : Byte) (addr : Word) (s : State) : State :=
  { s with fault := some ⟨op, addr⟩, run := .haltedFault }

end Sys2Proof.Machine
end

