-- ==== Sys2Proof/Machine/Operands.lean ====
section
/-! DEFINITION. Every operand form (spec/20_memory.md R72, spec/30_encoding.md R94, R95, R99): a register or M, a pair
that holds an address, a pair of PUSH and POP; and writing an ALU result. -/

namespace Sys2Proof.Machine

/-- Read the operand of a code DDD or SSS: `src8` (spec/41_arithmetic.md R170), and the source of MOV
(spec/40_data_transfer.md R120). M is the byte at HL. -/
def readOperand (o : Operand) (s : State) : Byte :=
  match o with
  | .reg r => s.reg r
  | .m => memRead s s.hl

/-- Write the operand of a code DDD (spec/30_encoding.md R94, spec/40_data_transfer.md R120). -/
def writeOperand (o : Operand) (v : Byte) (s : State) : State :=
  match o with
  | .reg r => s.setReg r v
  | .m => memWrite s.hl v s

/-- The address in BC or DE (spec/20_memory.md R72; spec/40_data_transfer.md R132, R133). -/
def State.indexAddress (s : State) : IndexPair → Word
  | .bc => s.bc
  | .de => s.de

/-- The word that PUSH stores: a pair, or `PSW = A ++ F` (spec/44_stack_io_control.md R241, R242). -/
def State.stackPair (s : State) : StackPair → Word
  | .bc => s.bc
  | .de => s.de
  | .hl => s.hl
  | .psw => joinBytes s.a (flagByte s.flags)

/-- Where POP puts its word: a pair, or A and the flags (spec/44_stack_io_control.md R243, R244). -/
def State.setStackPair (s : State) (k : StackPair) (w : Word) : State :=
  match k with
  | .bc => s.setBC w
  | .de => s.setDE w
  | .hl => s.setHL w
  | .psw => { s with a := highByte w, flags := flagsOfByte (lowByte w) }

/-- Write an ALU result to A and the flags (spec/41_arithmetic.md R153). -/
def setAccumulator (r : AluResult) (s : State) : State := { s with a := r.res, flags := r.flags }

/-- Write the flags of an ALU result and drop the result (spec/42_logical.md R187). -/
def setFlagsOnly (r : AluResult) (s : State) : State := { s with flags := r.flags }

end Sys2Proof.Machine
end

