-- ==== Sys2Proof/Machine/Arithmetic.lean ====
section
/-! DEFINITION. The meanings of the arithmetic instructions (spec/41_arithmetic.md R150 to R170). `k` is the number of
operand bytes: 0 for the register and M forms, 1 for the immediate forms. -/

namespace Sys2Proof.Machine

/-! ## Shared operations -/

/-- ADD, ADI (R153, R154). -/
def addTo (v : Byte) (k : Nat) (s : State) : State := advance k (setAccumulator (add8 s.a v false) s)

/-- ADC, ACI (R155, R156). -/
def addWithCarry (v : Byte) (k : Nat) (s : State) : State := advance k (setAccumulator (add8 s.a v s.flags.cy) s)

/-- SUB, SUI (R157, R158). -/
def subtractFrom (v : Byte) (k : Nat) (s : State) : State := advance k (setAccumulator (sub8 s.a v false) s)

/-- SBB, SBI (R159, R160). -/
def subtractWithBorrow (v : Byte) (k : Nat) (s : State) : State :=
  advance k (setAccumulator (sub8 s.a v s.flags.cy) s)

/-- INR (R161, R162): read, then write the same place; CY is kept. -/
def increment (o : Operand) (s : State) : State :=
  let r := inc8 s.flags (readOperand o s)
  advance 0 (setFlagsOnly r (writeOperand o r.res s))

/-- DCR (R163, R164): read, then write the same place; CY is kept. -/
def decrement (o : Operand) (s : State) : State :=
  let r := dec8 s.flags (readOperand o s)
  advance 0 (setFlagsOnly r (writeOperand o r.res s))

/-- INX (R165): no flag. -/
def incrementPair (k : RegPair) (s : State) : State := advance 0 (s.setPair k (s.pair k + 1))

/-- DCX (R166): no flag. -/
def decrementPair (k : RegPair) (s : State) : State := advance 0 (s.setPair k (s.pair k - 1))

/-- DAD (R167): only CY is written, the carry out of bit 15. -/
def addPairToHL (k : RegPair) (s : State) : State :=
  let sum := s.hl.toNat + (s.pair k).toNat
  let s1 := s.setHL (BitVec.ofNat 16 sum)
  advance 0 { s1 with flags := { s.flags with cy := decide (65536 ≤ sum) } }

/-- DAA (R168). -/
def decimalAdjust (s : State) : State := advance 0 (setAccumulator (daa8 s.flags s.a) s)

/-! ## The meanings -/

/-- INX B (R165). -/
def execInxB (s : State) : Result := .next (incrementPair .bc s)

/-- INR B (R161). -/
def execInrB (s : State) : Result := .next (increment (.reg .b) s)

/-- DCR B (R163). -/
def execDcrB (s : State) : Result := .next (decrement (.reg .b) s)

/-- DAD B (R167). -/
def execDadB (s : State) : Result := .next (addPairToHL .bc s)

/-- DCX B (R166). -/
def execDcxB (s : State) : Result := .next (decrementPair .bc s)

/-- INR C (R161). -/
def execInrC (s : State) : Result := .next (increment (.reg .c) s)

/-- DCR C (R163). -/
def execDcrC (s : State) : Result := .next (decrement (.reg .c) s)

/-- INX D (R165). -/
def execInxD (s : State) : Result := .next (incrementPair .de s)

/-- INR D (R161). -/
def execInrD (s : State) : Result := .next (increment (.reg .d) s)

/-- DCR D (R163). -/
def execDcrD (s : State) : Result := .next (decrement (.reg .d) s)

/-- DAD D (R167). -/
def execDadD (s : State) : Result := .next (addPairToHL .de s)

/-- DCX D (R166). -/
def execDcxD (s : State) : Result := .next (decrementPair .de s)

/-- INR E (R161). -/
def execInrE (s : State) : Result := .next (increment (.reg .e) s)

/-- DCR E (R163). -/
def execDcrE (s : State) : Result := .next (decrement (.reg .e) s)

/-- INX H (R165). -/
def execInxH (s : State) : Result := .next (incrementPair .hl s)

/-- INR H (R161). -/
def execInrH (s : State) : Result := .next (increment (.reg .h) s)

/-- DCR H (R163). -/
def execDcrH (s : State) : Result := .next (decrement (.reg .h) s)

/-- DAA (R168). -/
def execDaa (s : State) : Result := .next (decimalAdjust s)

/-- DAD H (R167). -/
def execDadH (s : State) : Result := .next (addPairToHL .hl s)

/-- DCX H (R166). -/
def execDcxH (s : State) : Result := .next (decrementPair .hl s)

/-- INR L (R161). -/
def execInrL (s : State) : Result := .next (increment (.reg .l) s)

/-- DCR L (R163). -/
def execDcrL (s : State) : Result := .next (decrement (.reg .l) s)

/-- INX SP (R165). -/
def execInxSp (s : State) : Result := .next (incrementPair .sp s)

/-- INR M (R162). -/
def execInrM (s : State) : Result := .next (increment .m s)

/-- DCR M (R164). -/
def execDcrM (s : State) : Result := .next (decrement .m s)

/-- DAD SP (R167). -/
def execDadSp (s : State) : Result := .next (addPairToHL .sp s)

/-- DCX SP (R166). -/
def execDcxSp (s : State) : Result := .next (decrementPair .sp s)

/-- INR A (R161). -/
def execInrA (s : State) : Result := .next (increment (.reg .a) s)

/-- DCR A (R163). -/
def execDcrA (s : State) : Result := .next (decrement (.reg .a) s)

/-- ADD B (R153). -/
def execAddB (s : State) : Result := .next (addTo (readOperand (.reg .b) s) 0 s)

/-- ADD C (R153). -/
def execAddC (s : State) : Result := .next (addTo (readOperand (.reg .c) s) 0 s)

/-- ADD D (R153). -/
def execAddD (s : State) : Result := .next (addTo (readOperand (.reg .d) s) 0 s)

/-- ADD E (R153). -/
def execAddE (s : State) : Result := .next (addTo (readOperand (.reg .e) s) 0 s)

/-- ADD H (R153). -/
def execAddH (s : State) : Result := .next (addTo (readOperand (.reg .h) s) 0 s)

/-- ADD L (R153). -/
def execAddL (s : State) : Result := .next (addTo (readOperand (.reg .l) s) 0 s)

/-- ADD M (R153). -/
def execAddM (s : State) : Result := .next (addTo (readOperand .m s) 0 s)

/-- ADD A (R153). -/
def execAddA (s : State) : Result := .next (addTo (readOperand (.reg .a) s) 0 s)

/-- ADC B (R155). -/
def execAdcB (s : State) : Result := .next (addWithCarry (readOperand (.reg .b) s) 0 s)

/-- ADC C (R155). -/
def execAdcC (s : State) : Result := .next (addWithCarry (readOperand (.reg .c) s) 0 s)

/-- ADC D (R155). -/
def execAdcD (s : State) : Result := .next (addWithCarry (readOperand (.reg .d) s) 0 s)

/-- ADC E (R155). -/
def execAdcE (s : State) : Result := .next (addWithCarry (readOperand (.reg .e) s) 0 s)

/-- ADC H (R155). -/
def execAdcH (s : State) : Result := .next (addWithCarry (readOperand (.reg .h) s) 0 s)

/-- ADC L (R155). -/
def execAdcL (s : State) : Result := .next (addWithCarry (readOperand (.reg .l) s) 0 s)

/-- ADC M (R155). -/
def execAdcM (s : State) : Result := .next (addWithCarry (readOperand .m s) 0 s)

/-- ADC A (R155). -/
def execAdcA (s : State) : Result := .next (addWithCarry (readOperand (.reg .a) s) 0 s)

/-- SUB B (R157). -/
def execSubB (s : State) : Result := .next (subtractFrom (readOperand (.reg .b) s) 0 s)

/-- SUB C (R157). -/
def execSubC (s : State) : Result := .next (subtractFrom (readOperand (.reg .c) s) 0 s)

/-- SUB D (R157). -/
def execSubD (s : State) : Result := .next (subtractFrom (readOperand (.reg .d) s) 0 s)

/-- SUB E (R157). -/
def execSubE (s : State) : Result := .next (subtractFrom (readOperand (.reg .e) s) 0 s)

/-- SUB H (R157). -/
def execSubH (s : State) : Result := .next (subtractFrom (readOperand (.reg .h) s) 0 s)

/-- SUB L (R157). -/
def execSubL (s : State) : Result := .next (subtractFrom (readOperand (.reg .l) s) 0 s)

/-- SUB M (R157). -/
def execSubM (s : State) : Result := .next (subtractFrom (readOperand .m s) 0 s)

/-- SUB A (R157). -/
def execSubA (s : State) : Result := .next (subtractFrom (readOperand (.reg .a) s) 0 s)

/-- SBB B (R159). -/
def execSbbB (s : State) : Result := .next (subtractWithBorrow (readOperand (.reg .b) s) 0 s)

/-- SBB C (R159). -/
def execSbbC (s : State) : Result := .next (subtractWithBorrow (readOperand (.reg .c) s) 0 s)

/-- SBB D (R159). -/
def execSbbD (s : State) : Result := .next (subtractWithBorrow (readOperand (.reg .d) s) 0 s)

/-- SBB E (R159). -/
def execSbbE (s : State) : Result := .next (subtractWithBorrow (readOperand (.reg .e) s) 0 s)

/-- SBB H (R159). -/
def execSbbH (s : State) : Result := .next (subtractWithBorrow (readOperand (.reg .h) s) 0 s)

/-- SBB L (R159). -/
def execSbbL (s : State) : Result := .next (subtractWithBorrow (readOperand (.reg .l) s) 0 s)

/-- SBB M (R159). -/
def execSbbM (s : State) : Result := .next (subtractWithBorrow (readOperand .m s) 0 s)

/-- SBB A (R159). -/
def execSbbA (s : State) : Result := .next (subtractWithBorrow (readOperand (.reg .a) s) 0 s)

/-- ADI d8 (R154). -/
def execAdi (d8 : Byte) (s : State) : Result := .next (addTo d8 1 s)

/-- ACI d8 (R156). -/
def execAci (d8 : Byte) (s : State) : Result := .next (addWithCarry d8 1 s)

/-- SUI d8 (R158). -/
def execSui (d8 : Byte) (s : State) : Result := .next (subtractFrom d8 1 s)

/-- SBI d8 (R160). -/
def execSbi (d8 : Byte) (s : State) : Result := .next (subtractWithBorrow d8 1 s)

end Sys2Proof.Machine
end

