-- ==== Sys2Proof/Machine/Branch.lean ====
section
/-! DEFINITION. The meanings of the branch instructions (spec/43_branch.md R210 to R220). Targets are absolute and no
flag is written. -/

namespace Sys2Proof.Machine

/-! ## Shared operations -/

/-- JMP (R212). -/
def jumpTo (a16 : Word) (s : State) : State := goTo a16 s

/-- Jcc (R213): the path not taken ends past both operand bytes. -/
def jumpIf (cond : Cond) (a16 : Word) (s : State) : State := if s.flags.holds cond then jumpTo a16 s else advance 2 s

/-- CALL (R214): push the address after the operand bytes, then jump. -/
def callTo (a16 : Word) (s : State) : State := goTo a16 (push16 (s.nextAddress 2) s)

/-- Ccc (R215): a call not taken writes nothing but PC. -/
def callIf (cond : Cond) (a16 : Word) (s : State) : State := if s.flags.holds cond then callTo a16 s else advance 2 s

/-- RET (R216). -/
def returnFrom (s : State) : State := goTo (topOfStack s) (dropWord s)

/-- Rcc (R217): a return not taken leaves the stack alone. -/
def returnIf (cond : Cond) (s : State) : State := if s.flags.holds cond then returnFrom s else advance 0 s

/-- RST n (R218): a one-byte call to `8 * n`. -/
def restart (n : Nat) (s : State) : State := goTo (BitVec.ofNat 16 (8 * n)) (push16 (s.nextAddress 0) s)

/-- PCHL (R219). -/
def jumpToHL (s : State) : State := goTo s.hl s

/-! ## The meanings -/

/-- RNZ (R217). -/
def execRnz (s : State) : Result := .next (returnIf .nz s)

/-- JNZ a16 (R213). -/
def execJnz (a16 : Word) (s : State) : Result := .next (jumpIf .nz a16 s)

/-- JMP a16 (R212). -/
def execJmp (a16 : Word) (s : State) : Result := .next (jumpTo a16 s)

/-- CNZ a16 (R215). -/
def execCnz (a16 : Word) (s : State) : Result := .next (callIf .nz a16 s)

/-- RST 0 (R218). -/
def execRst0 (s : State) : Result := .next (restart 0 s)

/-- RZ (R217). -/
def execRz (s : State) : Result := .next (returnIf .z s)

/-- RET (R216). -/
def execRet (s : State) : Result := .next (returnFrom s)

/-- JZ a16 (R213). -/
def execJz (a16 : Word) (s : State) : Result := .next (jumpIf .z a16 s)

/-- CZ a16 (R215). -/
def execCz (a16 : Word) (s : State) : Result := .next (callIf .z a16 s)

/-- CALL a16 (R214). -/
def execCall (a16 : Word) (s : State) : Result := .next (callTo a16 s)

/-- RST 1 (R218). -/
def execRst1 (s : State) : Result := .next (restart 1 s)

/-- RNC (R217). -/
def execRnc (s : State) : Result := .next (returnIf .nc s)

/-- JNC a16 (R213). -/
def execJnc (a16 : Word) (s : State) : Result := .next (jumpIf .nc a16 s)

/-- CNC a16 (R215). -/
def execCnc (a16 : Word) (s : State) : Result := .next (callIf .nc a16 s)

/-- RST 2 (R218). -/
def execRst2 (s : State) : Result := .next (restart 2 s)

/-- RC (R217). -/
def execRc (s : State) : Result := .next (returnIf .c s)

/-- JC a16 (R213). -/
def execJc (a16 : Word) (s : State) : Result := .next (jumpIf .c a16 s)

/-- CC a16 (R215). -/
def execCc (a16 : Word) (s : State) : Result := .next (callIf .c a16 s)

/-- RST 3 (R218). -/
def execRst3 (s : State) : Result := .next (restart 3 s)

/-- RPO (R217). -/
def execRpo (s : State) : Result := .next (returnIf .po s)

/-- JPO a16 (R213). -/
def execJpo (a16 : Word) (s : State) : Result := .next (jumpIf .po a16 s)

/-- CPO a16 (R215). -/
def execCpo (a16 : Word) (s : State) : Result := .next (callIf .po a16 s)

/-- RST 4 (R218). -/
def execRst4 (s : State) : Result := .next (restart 4 s)

/-- RPE (R217). -/
def execRpe (s : State) : Result := .next (returnIf .pe s)

/-- PCHL (R219). -/
def execPchl (s : State) : Result := .next (jumpToHL s)

/-- JPE a16 (R213). -/
def execJpe (a16 : Word) (s : State) : Result := .next (jumpIf .pe a16 s)

/-- CPE a16 (R215). -/
def execCpe (a16 : Word) (s : State) : Result := .next (callIf .pe a16 s)

/-- RST 5 (R218). -/
def execRst5 (s : State) : Result := .next (restart 5 s)

/-- RP (R217). -/
def execRp (s : State) : Result := .next (returnIf .p s)

/-- JP a16 (R213). -/
def execJp (a16 : Word) (s : State) : Result := .next (jumpIf .p a16 s)

/-- CP a16 (R215). -/
def execCp (a16 : Word) (s : State) : Result := .next (callIf .p a16 s)

/-- RST 6 (R218). -/
def execRst6 (s : State) : Result := .next (restart 6 s)

/-- RM (R217). -/
def execRm (s : State) : Result := .next (returnIf .m s)

/-- JM a16 (R213). -/
def execJm (a16 : Word) (s : State) : Result := .next (jumpIf .m a16 s)

/-- CM a16 (R215). -/
def execCm (a16 : Word) (s : State) : Result := .next (callIf .m a16 s)

/-- RST 7 (R218). -/
def execRst7 (s : State) : Result := .next (restart 7 s)

end Sys2Proof.Machine
end

