-- ==== Sys2Proof/Machine/DataTransfer.lean ====
section
/-! DEFINITION. The meanings of the data transfer instructions (spec/40_data_transfer.md R120 to R134). None of them
writes a flag, and each ends with `pc <- next`. -/

namespace Sys2Proof.Machine

/-! ## Shared operations -/

/-- MOV (R121 to R123): the source is read before the destination is written. -/
def move (dst src : Operand) (s : State) : State := advance 0 (writeOperand dst (readOperand src s) s)

/-- MVI (R124, R125). -/
def moveImmediate (dst : Operand) (d8 : Byte) (s : State) : State := advance 1 (writeOperand dst d8 s)

/-- LXI (R126, R127). -/
def loadPairImmediate (k : RegPair) (d16 : Word) (s : State) : State := advance 2 (s.setPair k d16)

/-- LDA (R128). -/
def loadAccDirect (a16 : Word) (s : State) : State := advance 2 (s.setReg .a (memRead s a16))

/-- STA (R129). -/
def storeAccDirect (a16 : Word) (s : State) : State := advance 2 (memWrite a16 s.a s)

/-- LHLD (R130): L from `a16`, H from `a16 + 1`. -/
def loadHLDirect (a16 : Word) (s : State) : State := advance 2 (s.setHL (memReadWord s a16))

/-- SHLD (R131): L to `a16`, H to `a16 + 1`. -/
def storeHLDirect (a16 : Word) (s : State) : State := advance 2 (memWriteWord a16 s.hl s)

/-- LDAX (R132). -/
def loadAccIndirect (k : IndexPair) (s : State) : State := advance 0 (s.setReg .a (memRead s (s.indexAddress k)))

/-- STAX (R133). -/
def storeAccIndirect (k : IndexPair) (s : State) : State := advance 0 (memWrite (s.indexAddress k) s.a s)

/-- XCHG (R134): simultaneous. -/
def exchangeHLDE (s : State) : State := advance 0 { s with h := s.d, l := s.e, d := s.h, e := s.l }

/-! ## The meanings -/

/-- LXI B,d16 (R126). -/
def execLxiB (d16 : Word) (s : State) : Result := .next (loadPairImmediate .bc d16 s)

/-- STAX B (R133). -/
def execStaxB (s : State) : Result := .next (storeAccIndirect .bc s)

/-- MVI B,d8 (R124). -/
def execMviB (d8 : Byte) (s : State) : Result := .next (moveImmediate (.reg .b) d8 s)

/-- LDAX B (R132). -/
def execLdaxB (s : State) : Result := .next (loadAccIndirect .bc s)

/-- MVI C,d8 (R124). -/
def execMviC (d8 : Byte) (s : State) : Result := .next (moveImmediate (.reg .c) d8 s)

/-- LXI D,d16 (R126). -/
def execLxiD (d16 : Word) (s : State) : Result := .next (loadPairImmediate .de d16 s)

/-- STAX D (R133). -/
def execStaxD (s : State) : Result := .next (storeAccIndirect .de s)

/-- MVI D,d8 (R124). -/
def execMviD (d8 : Byte) (s : State) : Result := .next (moveImmediate (.reg .d) d8 s)

/-- LDAX D (R132). -/
def execLdaxD (s : State) : Result := .next (loadAccIndirect .de s)

/-- MVI E,d8 (R124). -/
def execMviE (d8 : Byte) (s : State) : Result := .next (moveImmediate (.reg .e) d8 s)

/-- LXI H,d16 (R126). -/
def execLxiH (d16 : Word) (s : State) : Result := .next (loadPairImmediate .hl d16 s)

/-- SHLD a16 (R131). -/
def execShld (a16 : Word) (s : State) : Result := .next (storeHLDirect a16 s)

/-- MVI H,d8 (R124). -/
def execMviH (d8 : Byte) (s : State) : Result := .next (moveImmediate (.reg .h) d8 s)

/-- LHLD a16 (R130). -/
def execLhld (a16 : Word) (s : State) : Result := .next (loadHLDirect a16 s)

/-- MVI L,d8 (R124). -/
def execMviL (d8 : Byte) (s : State) : Result := .next (moveImmediate (.reg .l) d8 s)

/-- LXI SP,d16 (R127). -/
def execLxiSp (d16 : Word) (s : State) : Result := .next (loadPairImmediate .sp d16 s)

/-- STA a16 (R129). -/
def execSta (a16 : Word) (s : State) : Result := .next (storeAccDirect a16 s)

/-- MVI M,d8 (R125). -/
def execMviM (d8 : Byte) (s : State) : Result := .next (moveImmediate .m d8 s)

/-- LDA a16 (R128). -/
def execLda (a16 : Word) (s : State) : Result := .next (loadAccDirect a16 s)

/-- MVI A,d8 (R124). -/
def execMviA (d8 : Byte) (s : State) : Result := .next (moveImmediate (.reg .a) d8 s)

/-- MOV B,B (R121). -/
def execMovBB (s : State) : Result := .next (move (.reg .b) (.reg .b) s)

/-- MOV B,C (R121). -/
def execMovBC (s : State) : Result := .next (move (.reg .b) (.reg .c) s)

/-- MOV B,D (R121). -/
def execMovBD (s : State) : Result := .next (move (.reg .b) (.reg .d) s)

/-- MOV B,E (R121). -/
def execMovBE (s : State) : Result := .next (move (.reg .b) (.reg .e) s)

/-- MOV B,H (R121). -/
def execMovBH (s : State) : Result := .next (move (.reg .b) (.reg .h) s)

/-- MOV B,L (R121). -/
def execMovBL (s : State) : Result := .next (move (.reg .b) (.reg .l) s)

/-- MOV B,M (R122). -/
def execMovBM (s : State) : Result := .next (move (.reg .b) .m s)

/-- MOV B,A (R121). -/
def execMovBA (s : State) : Result := .next (move (.reg .b) (.reg .a) s)

/-- MOV C,B (R121). -/
def execMovCB (s : State) : Result := .next (move (.reg .c) (.reg .b) s)

/-- MOV C,C (R121). -/
def execMovCC (s : State) : Result := .next (move (.reg .c) (.reg .c) s)

/-- MOV C,D (R121). -/
def execMovCD (s : State) : Result := .next (move (.reg .c) (.reg .d) s)

/-- MOV C,E (R121). -/
def execMovCE (s : State) : Result := .next (move (.reg .c) (.reg .e) s)

/-- MOV C,H (R121). -/
def execMovCH (s : State) : Result := .next (move (.reg .c) (.reg .h) s)

/-- MOV C,L (R121). -/
def execMovCL (s : State) : Result := .next (move (.reg .c) (.reg .l) s)

/-- MOV C,M (R122). -/
def execMovCM (s : State) : Result := .next (move (.reg .c) .m s)

/-- MOV C,A (R121). -/
def execMovCA (s : State) : Result := .next (move (.reg .c) (.reg .a) s)

/-- MOV D,B (R121). -/
def execMovDB (s : State) : Result := .next (move (.reg .d) (.reg .b) s)

/-- MOV D,C (R121). -/
def execMovDC (s : State) : Result := .next (move (.reg .d) (.reg .c) s)

/-- MOV D,D (R121). -/
def execMovDD (s : State) : Result := .next (move (.reg .d) (.reg .d) s)

/-- MOV D,E (R121). -/
def execMovDE (s : State) : Result := .next (move (.reg .d) (.reg .e) s)

/-- MOV D,H (R121). -/
def execMovDH (s : State) : Result := .next (move (.reg .d) (.reg .h) s)

/-- MOV D,L (R121). -/
def execMovDL (s : State) : Result := .next (move (.reg .d) (.reg .l) s)

/-- MOV D,M (R122). -/
def execMovDM (s : State) : Result := .next (move (.reg .d) .m s)

/-- MOV D,A (R121). -/
def execMovDA (s : State) : Result := .next (move (.reg .d) (.reg .a) s)

/-- MOV E,B (R121). -/
def execMovEB (s : State) : Result := .next (move (.reg .e) (.reg .b) s)

/-- MOV E,C (R121). -/
def execMovEC (s : State) : Result := .next (move (.reg .e) (.reg .c) s)

/-- MOV E,D (R121). -/
def execMovED (s : State) : Result := .next (move (.reg .e) (.reg .d) s)

/-- MOV E,E (R121). -/
def execMovEE (s : State) : Result := .next (move (.reg .e) (.reg .e) s)

/-- MOV E,H (R121). -/
def execMovEH (s : State) : Result := .next (move (.reg .e) (.reg .h) s)

/-- MOV E,L (R121). -/
def execMovEL (s : State) : Result := .next (move (.reg .e) (.reg .l) s)

/-- MOV E,M (R122). -/
def execMovEM (s : State) : Result := .next (move (.reg .e) .m s)

/-- MOV E,A (R121). -/
def execMovEA (s : State) : Result := .next (move (.reg .e) (.reg .a) s)

/-- MOV H,B (R121). -/
def execMovHB (s : State) : Result := .next (move (.reg .h) (.reg .b) s)

/-- MOV H,C (R121). -/
def execMovHC (s : State) : Result := .next (move (.reg .h) (.reg .c) s)

/-- MOV H,D (R121). -/
def execMovHD (s : State) : Result := .next (move (.reg .h) (.reg .d) s)

/-- MOV H,E (R121). -/
def execMovHE (s : State) : Result := .next (move (.reg .h) (.reg .e) s)

/-- MOV H,H (R121). -/
def execMovHH (s : State) : Result := .next (move (.reg .h) (.reg .h) s)

/-- MOV H,L (R121). -/
def execMovHL (s : State) : Result := .next (move (.reg .h) (.reg .l) s)

/-- MOV H,M (R122). -/
def execMovHM (s : State) : Result := .next (move (.reg .h) .m s)

/-- MOV H,A (R121). -/
def execMovHA (s : State) : Result := .next (move (.reg .h) (.reg .a) s)

/-- MOV L,B (R121). -/
def execMovLB (s : State) : Result := .next (move (.reg .l) (.reg .b) s)

/-- MOV L,C (R121). -/
def execMovLC (s : State) : Result := .next (move (.reg .l) (.reg .c) s)

/-- MOV L,D (R121). -/
def execMovLD (s : State) : Result := .next (move (.reg .l) (.reg .d) s)

/-- MOV L,E (R121). -/
def execMovLE (s : State) : Result := .next (move (.reg .l) (.reg .e) s)

/-- MOV L,H (R121). -/
def execMovLH (s : State) : Result := .next (move (.reg .l) (.reg .h) s)

/-- MOV L,L (R121). -/
def execMovLL (s : State) : Result := .next (move (.reg .l) (.reg .l) s)

/-- MOV L,M (R122). -/
def execMovLM (s : State) : Result := .next (move (.reg .l) .m s)

/-- MOV L,A (R121). -/
def execMovLA (s : State) : Result := .next (move (.reg .l) (.reg .a) s)

/-- MOV M,B (R123). -/
def execMovMB (s : State) : Result := .next (move .m (.reg .b) s)

/-- MOV M,C (R123). -/
def execMovMC (s : State) : Result := .next (move .m (.reg .c) s)

/-- MOV M,D (R123). -/
def execMovMD (s : State) : Result := .next (move .m (.reg .d) s)

/-- MOV M,E (R123). -/
def execMovME (s : State) : Result := .next (move .m (.reg .e) s)

/-- MOV M,H (R123). -/
def execMovMH (s : State) : Result := .next (move .m (.reg .h) s)

/-- MOV M,L (R123). -/
def execMovML (s : State) : Result := .next (move .m (.reg .l) s)

/-- MOV M,A (R123). -/
def execMovMA (s : State) : Result := .next (move .m (.reg .a) s)

/-- MOV A,B (R121). -/
def execMovAB (s : State) : Result := .next (move (.reg .a) (.reg .b) s)

/-- MOV A,C (R121). -/
def execMovAC (s : State) : Result := .next (move (.reg .a) (.reg .c) s)

/-- MOV A,D (R121). -/
def execMovAD (s : State) : Result := .next (move (.reg .a) (.reg .d) s)

/-- MOV A,E (R121). -/
def execMovAE (s : State) : Result := .next (move (.reg .a) (.reg .e) s)

/-- MOV A,H (R121). -/
def execMovAH (s : State) : Result := .next (move (.reg .a) (.reg .h) s)

/-- MOV A,L (R121). -/
def execMovAL (s : State) : Result := .next (move (.reg .a) (.reg .l) s)

/-- MOV A,M (R122). -/
def execMovAM (s : State) : Result := .next (move (.reg .a) .m s)

/-- MOV A,A (R121). -/
def execMovAA (s : State) : Result := .next (move (.reg .a) (.reg .a) s)

/-- XCHG (R134). -/
def execXchg (s : State) : Result := .next (exchangeHLDE s)

end Sys2Proof.Machine
end

