-- ==== Sys2Proof/Machine/Logical.lean ====
section
/-! DEFINITION. The meanings of the logical, compare, rotate and carry instructions (spec/42_logical.md R180 to R195).
`k` is the number of operand bytes: 0 for the register and M forms, 1 for the immediate forms. -/

namespace Sys2Proof.Machine

/-! ## Shared operations -/

/-- ANA, ANI (R181, R182). -/
def andWith (v : Byte) (k : Nat) (s : State) : State := advance k (setAccumulator (and8 s.a v) s)

/-- XRA, XRI (R183, R184). -/
def xorWith (v : Byte) (k : Nat) (s : State) : State := advance k (setAccumulator (xor8 s.a v) s)

/-- ORA, ORI (R185, R186). -/
def orWith (v : Byte) (k : Nat) (s : State) : State := advance k (setAccumulator (or8 s.a v) s)

/-- CMP, CPI (R187, R188): the flags of the subtraction; A is not written. -/
def compareWith (v : Byte) (k : Nat) (s : State) : State := advance k (setFlagsOnly (sub8 s.a v false) s)

/-- Write A and CY, the only state a rotate touches (R180). -/
def setRotated (a : Byte) (cy : Bool) (s : State) : State := { s with a := a, flags := { s.flags with cy := cy } }

/-- RLC (R189): bit 7 to CY and to bit 0. -/
def rotateLeft (s : State) : State :=
  advance 0 (setRotated (s.a.extractLsb' 0 7 ++ s.a.extractLsb' 7 1) (s.a.getLsbD 7) s)

/-- RRC (R190): bit 0 to CY and to bit 7. -/
def rotateRight (s : State) : State :=
  advance 0 (setRotated (s.a.extractLsb' 0 1 ++ s.a.extractLsb' 1 7) (s.a.getLsbD 0) s)

/-- RAL (R191): bit 7 to CY, the old CY to bit 0. -/
def rotateLeftThroughCarry (s : State) : State :=
  advance 0 (setRotated (s.a.extractLsb' 0 7 ++ BitVec.ofBool s.flags.cy) (s.a.getLsbD 7) s)

/-- RAR (R192): bit 0 to CY, the old CY to bit 7. -/
def rotateRightThroughCarry (s : State) : State :=
  advance 0 (setRotated (BitVec.ofBool s.flags.cy ++ s.a.extractLsb' 1 7) (s.a.getLsbD 0) s)

/-- CMA (R193): no flag. -/
def complementAcc (s : State) : State := advance 0 (s.setReg .a (~~~ s.a))

/-- CMC (R194). -/
def complementCarry (s : State) : State := advance 0 { s with flags := { s.flags with cy := !s.flags.cy } }

/-- STC (R195). -/
def setCarry (s : State) : State := advance 0 { s with flags := { s.flags with cy := true } }

/-! ## The meanings -/

/-- RLC (R189). -/
def execRlc (s : State) : Result := .next (rotateLeft s)

/-- RRC (R190). -/
def execRrc (s : State) : Result := .next (rotateRight s)

/-- RAL (R191). -/
def execRal (s : State) : Result := .next (rotateLeftThroughCarry s)

/-- RAR (R192). -/
def execRar (s : State) : Result := .next (rotateRightThroughCarry s)

/-- CMA (R193). -/
def execCma (s : State) : Result := .next (complementAcc s)

/-- STC (R195). -/
def execStc (s : State) : Result := .next (setCarry s)

/-- CMC (R194). -/
def execCmc (s : State) : Result := .next (complementCarry s)

/-- ANA B (R181). -/
def execAnaB (s : State) : Result := .next (andWith (readOperand (.reg .b) s) 0 s)

/-- ANA C (R181). -/
def execAnaC (s : State) : Result := .next (andWith (readOperand (.reg .c) s) 0 s)

/-- ANA D (R181). -/
def execAnaD (s : State) : Result := .next (andWith (readOperand (.reg .d) s) 0 s)

/-- ANA E (R181). -/
def execAnaE (s : State) : Result := .next (andWith (readOperand (.reg .e) s) 0 s)

/-- ANA H (R181). -/
def execAnaH (s : State) : Result := .next (andWith (readOperand (.reg .h) s) 0 s)

/-- ANA L (R181). -/
def execAnaL (s : State) : Result := .next (andWith (readOperand (.reg .l) s) 0 s)

/-- ANA M (R181). -/
def execAnaM (s : State) : Result := .next (andWith (readOperand .m s) 0 s)

/-- ANA A (R181). -/
def execAnaA (s : State) : Result := .next (andWith (readOperand (.reg .a) s) 0 s)

/-- XRA B (R183). -/
def execXraB (s : State) : Result := .next (xorWith (readOperand (.reg .b) s) 0 s)

/-- XRA C (R183). -/
def execXraC (s : State) : Result := .next (xorWith (readOperand (.reg .c) s) 0 s)

/-- XRA D (R183). -/
def execXraD (s : State) : Result := .next (xorWith (readOperand (.reg .d) s) 0 s)

/-- XRA E (R183). -/
def execXraE (s : State) : Result := .next (xorWith (readOperand (.reg .e) s) 0 s)

/-- XRA H (R183). -/
def execXraH (s : State) : Result := .next (xorWith (readOperand (.reg .h) s) 0 s)

/-- XRA L (R183). -/
def execXraL (s : State) : Result := .next (xorWith (readOperand (.reg .l) s) 0 s)

/-- XRA M (R183). -/
def execXraM (s : State) : Result := .next (xorWith (readOperand .m s) 0 s)

/-- XRA A (R183). -/
def execXraA (s : State) : Result := .next (xorWith (readOperand (.reg .a) s) 0 s)

/-- ORA B (R185). -/
def execOraB (s : State) : Result := .next (orWith (readOperand (.reg .b) s) 0 s)

/-- ORA C (R185). -/
def execOraC (s : State) : Result := .next (orWith (readOperand (.reg .c) s) 0 s)

/-- ORA D (R185). -/
def execOraD (s : State) : Result := .next (orWith (readOperand (.reg .d) s) 0 s)

/-- ORA E (R185). -/
def execOraE (s : State) : Result := .next (orWith (readOperand (.reg .e) s) 0 s)

/-- ORA H (R185). -/
def execOraH (s : State) : Result := .next (orWith (readOperand (.reg .h) s) 0 s)

/-- ORA L (R185). -/
def execOraL (s : State) : Result := .next (orWith (readOperand (.reg .l) s) 0 s)

/-- ORA M (R185). -/
def execOraM (s : State) : Result := .next (orWith (readOperand .m s) 0 s)

/-- ORA A (R185). -/
def execOraA (s : State) : Result := .next (orWith (readOperand (.reg .a) s) 0 s)

/-- CMP B (R187). -/
def execCmpB (s : State) : Result := .next (compareWith (readOperand (.reg .b) s) 0 s)

/-- CMP C (R187). -/
def execCmpC (s : State) : Result := .next (compareWith (readOperand (.reg .c) s) 0 s)

/-- CMP D (R187). -/
def execCmpD (s : State) : Result := .next (compareWith (readOperand (.reg .d) s) 0 s)

/-- CMP E (R187). -/
def execCmpE (s : State) : Result := .next (compareWith (readOperand (.reg .e) s) 0 s)

/-- CMP H (R187). -/
def execCmpH (s : State) : Result := .next (compareWith (readOperand (.reg .h) s) 0 s)

/-- CMP L (R187). -/
def execCmpL (s : State) : Result := .next (compareWith (readOperand (.reg .l) s) 0 s)

/-- CMP M (R187). -/
def execCmpM (s : State) : Result := .next (compareWith (readOperand .m s) 0 s)

/-- CMP A (R187). -/
def execCmpA (s : State) : Result := .next (compareWith (readOperand (.reg .a) s) 0 s)

/-- ANI d8 (R182). -/
def execAni (d8 : Byte) (s : State) : Result := .next (andWith d8 1 s)

/-- XRI d8 (R184). -/
def execXri (d8 : Byte) (s : State) : Result := .next (xorWith d8 1 s)

/-- ORI d8 (R186). -/
def execOri (d8 : Byte) (s : State) : Result := .next (orWith d8 1 s)

/-- CPI d8 (R188). -/
def execCpi (d8 : Byte) (s : State) : Result := .next (compareWith d8 1 s)

end Sys2Proof.Machine
end

