-- ==== Sys2Proof/Machine/StackIoControl.lean ====
section
/-! DEFINITION. The meanings of the stack, port and machine-control instructions (spec/44_stack_io_control.md R240 to
R252). Each ends with `pc <- next`. -/

namespace Sys2Proof.Machine

/-! ## Shared operations -/

/-- PUSH (R241, R242). -/
def push (k : StackPair) (s : State) : State := advance 0 (push16 (s.stackPair k) s)

/-- POP (R243, R244). -/
def pop (k : StackPair) (s : State) : State := advance 0 ((dropWord s).setStackPair k (topOfStack s))

/-- XTHL (R245): both bytes are read before either is written. -/
def exchangeStackTop (s : State) : State := advance 0 ((memWriteWord s.sp s.hl s).setHL (topOfStack s))

/-- SPHL (R246). -/
def stackFromHL (s : State) : State := advance 0 { s with sp := s.hl }

/-- IN (R247): A receives what IO_ENV answers, and the history records it. -/
def input (p8 : Byte) (s : State) : State :=
  let v := ioRead s p8
  advance 1 (recordIo (.input p8 v) (s.setReg .a v))

/-- OUT (R248): the pair goes to IO_ENV and the history records it. -/
def output (p8 : Byte) (s : State) : State := advance 1 (recordIo (.output p8 s.a) s)

/-- EI (R249): at once. -/
def enableInterrupts (s : State) : State := advance 0 { s with inte := true }

/-- DI (R250). -/
def disableInterrupts (s : State) : State := advance 0 { s with inte := false }

/-- HLT (R251). -/
def halt (s : State) : State := haltNormal (advance 0 s)

/-- NOP (R252). -/
def noOperation (s : State) : State := advance 0 s

/-! ## The meanings -/

/-- NOP (R252). -/
def execNop (s : State) : Result := .next (noOperation s)

/-- HLT (R251). -/
def execHlt (s : State) : Result := .next (halt s)

/-- POP B (R243). -/
def execPopB (s : State) : Result := .next (pop .bc s)

/-- PUSH B (R241). -/
def execPushB (s : State) : Result := .next (push .bc s)

/-- POP D (R243). -/
def execPopD (s : State) : Result := .next (pop .de s)

/-- OUT p8 (R248). -/
def execOutPort (p8 : Byte) (s : State) : Result := .next (output p8 s)

/-- PUSH D (R241). -/
def execPushD (s : State) : Result := .next (push .de s)

/-- IN p8 (R247). -/
def execInPort (p8 : Byte) (s : State) : Result := .next (input p8 s)

/-- POP H (R243). -/
def execPopH (s : State) : Result := .next (pop .hl s)

/-- XTHL (R245). -/
def execXthl (s : State) : Result := .next (exchangeStackTop s)

/-- PUSH H (R241). -/
def execPushH (s : State) : Result := .next (push .hl s)

/-- POP PSW (R244). -/
def execPopPsw (s : State) : Result := .next (pop .psw s)

/-- DI (R250). -/
def execDi (s : State) : Result := .next (disableInterrupts s)

/-- PUSH PSW (R242). -/
def execPushPsw (s : State) : Result := .next (push .psw s)

/-- SPHL (R246). -/
def execSphl (s : State) : Result := .next (stackFromHL s)

/-- EI (R249). -/
def execEi (s : State) : Result := .next (enableInterrupts s)

end Sys2Proof.Machine
end

