-- ==== Sys2Proof/Machine/Undocumented.lean ====
section
/-! DEFINITION. The meanings of the twelve undocumented opcode bytes (spec/30_encoding.md R105): each raises the
unimplemented-opcode fault (spec/60_exceptions.md R270 to R273), as the step's gate does for them. -/

namespace Sys2Proof.Machine

/-! ## The shared operation -/

/-- The fault of an undocumented byte, met in the execute phase: PC stays at `pc0 + 1`, the record holds `pc0` (R273). -/
def takeUnimplemented (op : Byte) (s : State) : State := raiseUnimplementedOpcode op s.opcodeAddress s

/-! ## The meanings -/

/-- Undocumented byte 0x08 (R105, R273). -/
def execUndocumented08 (s : State) : Result := .next (takeUnimplemented 0x08 s)

/-- Undocumented byte 0x10 (R105, R273). -/
def execUndocumented10 (s : State) : Result := .next (takeUnimplemented 0x10 s)

/-- Undocumented byte 0x18 (R105, R273). -/
def execUndocumented18 (s : State) : Result := .next (takeUnimplemented 0x18 s)

/-- Undocumented byte 0x20 (R105, R273). -/
def execUndocumented20 (s : State) : Result := .next (takeUnimplemented 0x20 s)

/-- Undocumented byte 0x28 (R105, R273). -/
def execUndocumented28 (s : State) : Result := .next (takeUnimplemented 0x28 s)

/-- Undocumented byte 0x30 (R105, R273). -/
def execUndocumented30 (s : State) : Result := .next (takeUnimplemented 0x30 s)

/-- Undocumented byte 0x38 (R105, R273). -/
def execUndocumented38 (s : State) : Result := .next (takeUnimplemented 0x38 s)

/-- Undocumented byte 0xCB (R105, R273). -/
def execUndocumentedCB (s : State) : Result := .next (takeUnimplemented 0xCB s)

/-- Undocumented byte 0xD9 (R105, R273). -/
def execUndocumentedD9 (s : State) : Result := .next (takeUnimplemented 0xD9 s)

/-- Undocumented byte 0xDD (R105, R273). -/
def execUndocumentedDD (s : State) : Result := .next (takeUnimplemented 0xDD s)

/-- Undocumented byte 0xED (R105, R273). -/
def execUndocumentedED (s : State) : Result := .next (takeUnimplemented 0xED s)

/-- Undocumented byte 0xFD (R105, R273). -/
def execUndocumentedFD (s : State) : Result := .next (takeUnimplemented 0xFD s)

end Sys2Proof.Machine
end

