-- ==== Sys2Proof/Machine/Step.lean ====
section
/-! DEFINITION. One step of the machine (spec/30_encoding.md R110, spec/60_exceptions.md R277), and placing an
instruction where the next step fetches. -/

namespace Sys2Proof.Machine

/-- Stages 2 to 5 of R110: fetch, pre-increment, the implemented gate, decode and execute. -/
def runInstruction (s : State) : Host.Outcome State Fault Refusal :=
  let f := fetch s
  if implemented s.cfg f.op then exec (decodeOp f.op f.b1 f.b2) (preIncrement s)
  else .next (raiseUnimplementedOpcode f.op s.pc (preIncrement s))

/-- One step. Stage 1 of R110 is the bound check (R275). A halted machine has no step; its state is returned unchanged
(R279; log entry 3). -/
def step (s : State) : Host.Outcome State Fault Refusal :=
  match s.run with
  | .running => if atPcLimit s then .next (haltNormal s) else runInstruction s
  | .haltedNormal => .next s
  | .haltedFault => .next s

/-- `s` with the three bytes of an instruction of `nbits` bits, its first byte the low byte of `w`, stored at PC, PC + 1
and PC + 2, where the fetch of the next step reads them (R110). Nothing else changes: the machine fetches at PC. -/
def State.withFetchWord (s : State) (nbits w : Nat) : State :=
  let bytes := tableBytes nbits w
  memWrite s.pc (bytes.getD 0 0)
    (memWrite (s.pc + 1) (bytes.getD 1 0)
      (memWrite (s.pc + 2) (bytes.getD 2 0) s))

end Sys2Proof.Machine
end

