-- ==== Sys2Proof/Machine/HostInterface.lean ====
section
/-! DEFINITION. What the host does around the steps (spec/70_reset_and_hazards.md R300 to R303, R310, R311;
spec/60_exceptions.md R288): reset a machine, load a program image and launch it, read how a run stands. -/

namespace Sys2Proof.Machine

/-- Reset of a machine that has run, from any state: construction anew, memory included (R300). -/
def resetAgain (s : State) : State := State.construct s.cfg

/-- Copy a list of bytes to the indices from `i` on (R301). -/
def loadFrom : List Byte → Nat → Memory → Memory
  | [], _, m => m
  | v :: rest, i, m => loadFrom rest (i + 1) (Memory.write m i v)

/-- Why an image is not launched. -/
inductive LaunchError where
  /-- the image is longer than MEM_SIZE: refused, not truncated (R302) -/
  | imageTooLarge
  deriving DecidableEq, Repr

/-- The launch state (R303): reset values everywhere and the image at index 0 and up. -/
def launch (cfg : Config) (image : List Byte) : Except LaunchError State :=
  if memSize cfg < image.length then .error .imageTooLarge
  else .ok { State.construct cfg with mem := loadFrom image 0 [] }

/-- What the host is told after a step (R288). -/
inductive Report where
  | continues
  | halted
  | faulted (op : Byte) (addr : Word)
  deriving DecidableEq, Repr

/-- The report of a state: none when the fault record of a faulted state is missing, which no run reaches (R37). -/
def report (s : State) : Option Report :=
  match s.run, s.fault with
  | .running, _ => some .continues
  | .haltedNormal, _ => some .halted
  | .haltedFault, some f => some (.faulted f.op f.addr)
  | .haltedFault, none => none

/-- A run has ended exactly when `run` is not running (R310). -/
def ended (s : State) : Bool := s.run != .running

end Sys2Proof.Machine
end

