-- ==== Sys2Proof/Safety.lean ====
section
/-! DEFINITION. The terms the statements use: the invariant of the machine, what an instruction may write and what it
leaves alone, what a store does to memory, and the flags of a result, said in numbers and apart from the model's own
flag functions. -/

namespace Sys2Proof.Machine

/-! ## The invariant -/

/-- What every state of a run has: memory in its canonical form, no cell outside the image (spec/10_state.md R34,
spec/20_memory.md R62), and a fault record exactly in `halted_fault` (spec/10_state.md R37). -/
abbrev State.Inv (s : State) : Prop :=
  Memory.wf s.mem ∧ (∀ cell ∈ s.mem, cell.1 < memSize s.cfg) ∧ (s.fault.isSome = true ↔ s.run = .haltedFault)

/-! ## Frames -/

/-- The pieces of state an instruction can write (spec/10_state.md; `io` is the model's own, log entry 2). -/
inductive Part where
  | reg (r : Reg)
  | sp | pc
  | z | s | p | cy | ac
  | inte | mem | run | fault | io
  deriving DecidableEq, Repr

/-- All five flags. -/
def flagParts : List Part := [.z, .s, .p, .cy, .ac]

/-- The registers of a pair of the SP-table. -/
def pairParts : RegPair → List Part
  | .bc => [.reg .b, .reg .c]
  | .de => [.reg .d, .reg .e]
  | .hl => [.reg .h, .reg .l]
  | .sp => [.sp]

/-- `t` is `s` but for the listed parts. Memory is compared byte by byte through `memRead`; the parameters are never
among the parts. -/
def UnchangedExcept (changed : List Part) (s t : State) : Prop :=
  (∀ r : Reg, .reg r ∉ changed → t.reg r = s.reg r) ∧
  (.sp ∉ changed → t.sp = s.sp) ∧
  (.pc ∉ changed → t.pc = s.pc) ∧
  (.z ∉ changed → t.flags.z = s.flags.z) ∧
  (.s ∉ changed → t.flags.s = s.flags.s) ∧
  (.p ∉ changed → t.flags.p = s.flags.p) ∧
  (.cy ∉ changed → t.flags.cy = s.flags.cy) ∧
  (.ac ∉ changed → t.flags.ac = s.flags.ac) ∧
  (.inte ∉ changed → t.inte = s.inte) ∧
  (.mem ∉ changed → ∀ addr : Word, memRead t addr = memRead s addr) ∧
  (.run ∉ changed → t.run = s.run) ∧
  (.fault ∉ changed → t.fault = s.fault) ∧
  (.io ∉ changed → t.io = s.io) ∧
  t.cfg = s.cfg

/-- Memory after a store of one byte: every address of the same index reads `v`, every other address reads as before
(spec/20_memory.md R61). -/
def StoresByte (addr : Word) (v : Byte) (s t : State) : Prop :=
  ∀ a : Word, memRead t a = if s.index a = s.index addr then v else memRead s a

/-- Memory after a store of a word: the low byte at `addr`, the high byte at `addr + 1`, every other address as before
(spec/20_memory.md R64). -/
def StoresWord (addr w : Word) (s t : State) : Prop :=
  ∀ a : Word, memRead t a =
    if s.index a = s.index addr then lowByte w
    else if s.index a = s.index (addr + 1) then highByte w
    else memRead s a

/-- The parts each instruction may write, from the state it executes in (spec/10_state.md R24, R31, R32;
spec/43_branch.md R220 (e)): a conditional call or return not taken writes PC alone (R215, R217). -/
def instrWrites (i : Instr) (s : State) : List Part :=
  match i with
  | .nop | .jnz _ | .jmp _ | .jz _ | .jnc _ | .jc _ | .jpo _ | .pchl | .jpe _ | .jp _ | .jm _ => [.pc]
  | .lxiB _ | .inxB | .dcxB => [.pc, .reg .b, .reg .c]
  | .staxB | .staxD | .shld _ | .sta _ | .mviM _ | .movMB | .movMC | .movMD | .movME | .movMH
  | .movML | .movMA => [.pc, .mem]
  | .inrB | .dcrB => [.pc, .reg .b, .z, .s, .p, .ac]
  | .mviB _ | .movBB | .movBC | .movBD | .movBE | .movBH | .movBL | .movBM | .movBA => [.pc, .reg .b]
  | .rlc | .rrc | .ral | .rar => [.pc, .reg .a, .cy]
  | .undocumented08 | .undocumented10 | .undocumented18 | .undocumented20 | .undocumented28
  | .undocumented30 | .undocumented38 | .undocumentedCB | .undocumentedD9 | .undocumentedDD
  | .undocumentedED | .undocumentedFD => [.run, .fault]
  | .dadB | .dadD | .dadH | .dadSp => [.pc, .reg .h, .reg .l, .cy]
  | .ldaxB | .ldaxD | .cma | .lda _ | .mviA _ | .movAB | .movAC | .movAD | .movAE | .movAH | .movAL
  | .movAM | .movAA => [.pc, .reg .a]
  | .inrC | .dcrC => [.pc, .reg .c, .z, .s, .p, .ac]
  | .mviC _ | .movCB | .movCC | .movCD | .movCE | .movCH | .movCL | .movCM | .movCA => [.pc, .reg .c]
  | .lxiD _ | .inxD | .dcxD => [.pc, .reg .d, .reg .e]
  | .inrD | .dcrD => [.pc, .reg .d, .z, .s, .p, .ac]
  | .mviD _ | .movDB | .movDC | .movDD | .movDE | .movDH | .movDL | .movDM | .movDA => [.pc, .reg .d]
  | .inrE | .dcrE => [.pc, .reg .e, .z, .s, .p, .ac]
  | .mviE _ | .movEB | .movEC | .movED | .movEE | .movEH | .movEL | .movEM | .movEA => [.pc, .reg .e]
  | .lxiH _ | .inxH | .lhld _ | .dcxH => [.pc, .reg .h, .reg .l]
  | .inrH | .dcrH => [.pc, .reg .h, .z, .s, .p, .ac]
  | .mviH _ | .movHB | .movHC | .movHD | .movHE | .movHH | .movHL | .movHM | .movHA => [.pc, .reg .h]
  | .daa | .addB | .addC | .addD | .addE | .addH | .addL | .addM | .addA | .adcB | .adcC | .adcD
  | .adcE | .adcH | .adcL | .adcM | .adcA | .subB | .subC | .subD | .subE | .subH | .subL | .subM
  | .subA | .sbbB | .sbbC | .sbbD | .sbbE | .sbbH | .sbbL | .sbbM | .sbbA | .anaB | .anaC | .anaD
  | .anaE | .anaH | .anaL | .anaM | .anaA | .xraB | .xraC | .xraD | .xraE | .xraH | .xraL | .xraM
  | .xraA | .oraB | .oraC | .oraD | .oraE | .oraH | .oraL | .oraM | .oraA | .adi _ | .aci _ | .sui _
  | .sbi _ | .ani _ | .xri _ | .ori _ => [.pc, .reg .a, .z, .s, .p, .cy, .ac]
  | .inrL | .dcrL => [.pc, .reg .l, .z, .s, .p, .ac]
  | .mviL _ | .movLB | .movLC | .movLD | .movLE | .movLH | .movLL | .movLM | .movLA => [.pc, .reg .l]
  | .lxiSp _ | .inxSp | .dcxSp | .ret | .sphl => [.pc, .sp]
  | .inrM | .dcrM => [.pc, .mem, .z, .s, .p, .ac]
  | .stc | .cmc => [.pc, .cy]
  | .inrA | .dcrA => [.pc, .reg .a, .z, .s, .p, .ac]
  | .hlt => [.pc, .run]
  | .cmpB | .cmpC | .cmpD | .cmpE | .cmpH | .cmpL | .cmpM | .cmpA | .cpi _ => [.pc, .z, .s, .p, .cy, .ac]
  | .rnz => if s.flags.holds .nz then [.pc, .sp] else [.pc]
  | .popB => [.pc, .sp, .reg .b, .reg .c]
  | .cnz _ => if s.flags.holds .nz then [.pc, .sp, .mem] else [.pc]
  | .pushB | .rst0 | .call _ | .rst1 | .pushD | .rst2 | .rst3 | .pushH | .rst4 | .rst5 | .pushPsw
  | .rst6 | .rst7 => [.pc, .sp, .mem]
  | .rz => if s.flags.holds .z then [.pc, .sp] else [.pc]
  | .cz _ => if s.flags.holds .z then [.pc, .sp, .mem] else [.pc]
  | .rnc => if s.flags.holds .nc then [.pc, .sp] else [.pc]
  | .popD => [.pc, .sp, .reg .d, .reg .e]
  | .outPort _ => [.pc, .io]
  | .cnc _ => if s.flags.holds .nc then [.pc, .sp, .mem] else [.pc]
  | .rc => if s.flags.holds .c then [.pc, .sp] else [.pc]
  | .inPort _ => [.pc, .reg .a, .io]
  | .cc _ => if s.flags.holds .c then [.pc, .sp, .mem] else [.pc]
  | .rpo => if s.flags.holds .po then [.pc, .sp] else [.pc]
  | .popH => [.pc, .sp, .reg .h, .reg .l]
  | .xthl => [.pc, .reg .h, .reg .l, .mem]
  | .cpo _ => if s.flags.holds .po then [.pc, .sp, .mem] else [.pc]
  | .rpe => if s.flags.holds .pe then [.pc, .sp] else [.pc]
  | .xchg => [.pc, .reg .h, .reg .l, .reg .d, .reg .e]
  | .cpe _ => if s.flags.holds .pe then [.pc, .sp, .mem] else [.pc]
  | .rp => if s.flags.holds .p then [.pc, .sp] else [.pc]
  | .popPsw => [.pc, .sp, .reg .a, .z, .s, .p, .cy, .ac]
  | .di | .ei => [.pc, .inte]
  | .cp _ => if s.flags.holds .p then [.pc, .sp, .mem] else [.pc]
  | .rm => if s.flags.holds .m then [.pc, .sp] else [.pc]
  | .cm _ => if s.flags.holds .m then [.pc, .sp, .mem] else [.pc]

/-- The two addresses of a push (spec/20_memory.md R76). -/
def State.pushAddresses (s : State) : List Word := [s.sp - 1, s.sp - 2]

/-- The addresses each instruction stores to, from the state it executes in, with the expressions its meaning uses: none
for a form that stores nothing, and none for a conditional call not taken (spec/43_branch.md R215). -/
def instrStores (i : Instr) (s : State) : List Word :=
  match i with
  | .staxB => [s.indexAddress .bc]
  | .staxD => [s.indexAddress .de]
  | .shld a16 => [a16, a16 + 1]
  | .sta a16 => [a16]
  | .inrM | .dcrM | .mviM _ | .movMB | .movMC | .movMD | .movME | .movMH | .movML | .movMA => [s.hl]
  | .cnz _ => if s.flags.holds .nz then s.pushAddresses else []
  | .pushB | .rst0 | .call _ | .rst1 | .pushD | .rst2 | .rst3 | .pushH | .rst4 | .rst5 | .pushPsw
  | .rst6 | .rst7 => s.pushAddresses
  | .cz _ => if s.flags.holds .z then s.pushAddresses else []
  | .cnc _ => if s.flags.holds .nc then s.pushAddresses else []
  | .cc _ => if s.flags.holds .c then s.pushAddresses else []
  | .xthl => [s.sp, s.sp + 1]
  | .cpo _ => if s.flags.holds .po then s.pushAddresses else []
  | .cpe _ => if s.flags.holds .pe then s.pushAddresses else []
  | .cp _ => if s.flags.holds .p then s.pushAddresses else []
  | .cm _ => if s.flags.holds .m then s.pushAddresses else []
  | .nop | .lxiB _ | .inxB | .inrB | .dcrB | .mviB _ | .rlc | .undocumented08 | .dadB | .ldaxB
  | .dcxB | .inrC | .dcrC | .mviC _ | .rrc | .undocumented10 | .lxiD _ | .inxD | .inrD | .dcrD
  | .mviD _ | .ral | .undocumented18 | .dadD | .ldaxD | .dcxD | .inrE | .dcrE | .mviE _ | .rar
  | .undocumented20 | .lxiH _ | .inxH | .inrH | .dcrH | .mviH _ | .daa | .undocumented28 | .dadH
  | .lhld _ | .dcxH | .inrL | .dcrL | .mviL _ | .cma | .undocumented30 | .lxiSp _ | .inxSp | .stc
  | .undocumented38 | .dadSp | .lda _ | .dcxSp | .inrA | .dcrA | .mviA _ | .cmc | .movBB | .movBC
  | .movBD | .movBE | .movBH | .movBL | .movBM | .movBA | .movCB | .movCC | .movCD | .movCE | .movCH
  | .movCL | .movCM | .movCA | .movDB | .movDC | .movDD | .movDE | .movDH | .movDL | .movDM | .movDA
  | .movEB | .movEC | .movED | .movEE | .movEH | .movEL | .movEM | .movEA | .movHB | .movHC | .movHD
  | .movHE | .movHH | .movHL | .movHM | .movHA | .movLB | .movLC | .movLD | .movLE | .movLH | .movLL
  | .movLM | .movLA | .hlt | .movAB | .movAC | .movAD | .movAE | .movAH | .movAL | .movAM | .movAA
  | .addB | .addC | .addD | .addE | .addH | .addL | .addM | .addA | .adcB | .adcC | .adcD | .adcE
  | .adcH | .adcL | .adcM | .adcA | .subB | .subC | .subD | .subE | .subH | .subL | .subM | .subA
  | .sbbB | .sbbC | .sbbD | .sbbE | .sbbH | .sbbL | .sbbM | .sbbA | .anaB | .anaC | .anaD | .anaE
  | .anaH | .anaL | .anaM | .anaA | .xraB | .xraC | .xraD | .xraE | .xraH | .xraL | .xraM | .xraA
  | .oraB | .oraC | .oraD | .oraE | .oraH | .oraL | .oraM | .oraA | .cmpB | .cmpC | .cmpD | .cmpE
  | .cmpH | .cmpL | .cmpM | .cmpA | .rnz | .popB | .jnz _ | .jmp _ | .adi _ | .rz | .ret | .jz _
  | .undocumentedCB | .aci _ | .rnc | .popD | .jnc _ | .outPort _ | .sui _ | .rc | .undocumentedD9
  | .jc _ | .inPort _ | .undocumentedDD | .sbi _ | .rpo | .popH | .jpo _ | .ani _ | .rpe | .pchl
  | .jpe _ | .xchg | .undocumentedED | .xri _ | .rp | .popPsw | .jp _ | .di | .ori _ | .rm | .sphl
  | .jm _ | .ei | .undocumentedFD | .cpi _ => []

/-- Memory after stores to some of the addresses: every address whose index is not among theirs reads as before
(spec/20_memory.md R61). -/
def StoresOnlyAt (addrs : List Word) (s t : State) : Prop :=
  ∀ addr : Word, (∀ a ∈ addrs, s.index addr ≠ s.index a) → memRead t addr = memRead s addr

/-! ## Results in numbers -/

/-- Z, S and P describe the byte `res` (spec/10_state.md R28): it is zero, its bit 7 is set, it has an even number of one
bits. -/
def FlagsOfResult (f : Flags) (res : Byte) : Prop :=
  (f.z = true ↔ res.toNat = 0) ∧ (f.s = true ↔ 128 ≤ res.toNat) ∧
    (f.p = true ↔ ((List.range 8).countP fun k => res.getLsbD k) % 2 = 0)

/-- `res` and `f` are the result and the flags of the sum `a + v + cin` (spec/41_arithmetic.md R151). -/
def IsSum (a v : Byte) (cin : Bool) (res : Byte) (f : Flags) : Prop :=
  res.toNat = (a.toNat + v.toNat + cin.toNat) % 256 ∧ FlagsOfResult f res ∧
    (f.cy = true ↔ 256 ≤ a.toNat + v.toNat + cin.toNat) ∧
    (f.ac = true ↔ 16 ≤ a.toNat % 16 + v.toNat % 16 + cin.toNat)

/-- `res` and `f` are the result and the flags of the difference `a - v - bin` (spec/41_arithmetic.md R152): CY is the
borrow, AC is set when no borrow from bit 4 was needed. -/
def IsDifference (a v : Byte) (bin : Bool) (res : Byte) (f : Flags) : Prop :=
  (res.toNat : Int) = ((a.toNat : Int) - v.toNat - bin.toNat) % 256 ∧ FlagsOfResult f res ∧
    (f.cy = true ↔ a.toNat < v.toNat + bin.toNat) ∧
    (f.ac = true ↔ v.toNat % 16 + bin.toNat ≤ a.toNat % 16)

end Sys2Proof.Machine
end

