-- ==== Sys2Proof/Certificates/Slice0/Obligations.lean ====
section
/-! DEFINITION. The statements for the provers. In a statement about exec, `s` is the state of the execute phase: PC has
been moved past the opcode byte (spec/30_encoding.md R110, R111), so that `next` of an instruction with k operand bytes
is `s.pc + k`. An instruction is named through its pattern (Instr.ofMov and the like, Decode.lean) where one statement
holds for all operands of the pattern. -/

open Sys2Proof Sys2Proof.Machine

/-! ## Encoding -/

/-- A few words written out from the spec decode to their instructions, one or more per family. Two clauses are the
model's choice and no rule of the spec: that the undocumented byte 0xED decodes to a term of its own and of one byte
(log entry 4; R92 gives it no length), and that a truncated JMP is rejected by an error value (log entry 8). Derived
from 30_encoding.md R100, 30_encoding.md R101, 30_encoding.md R102, 30_encoding.md R103. -/
def Obligations.SpecWordsDecode : Prop :=
  decode [0b01000001] = .ok (.movBC, []) ∧
  decode [0b00110110, 0x5A, 0x76] = .ok (.mviM 0x5A, [0x76]) ∧
  decode [0b00000001, 0x34, 0x12, 0x00] = .ok (.lxiB 0x1234, [0x00]) ∧
  decode [0b00110001, 0x00, 0x20] = .ok (.lxiSp 0x2000, []) ∧
  decode [0b00000010] = .ok (.staxB, []) ∧
  decode [0b10000010] = .ok (.addD, []) ∧
  decode [0b11011110, 0x01] = .ok (.sbi 0x01, []) ∧
  decode [0b00111001] = .ok (.dadSp, []) ∧
  decode [0b10100110] = .ok (.anaM, []) ∧
  decode [0b00011111] = .ok (.rar, []) ∧
  decode [0b11000010, 0x00, 0x10] = .ok (.jnz 0x1000, []) ∧
  decode [0b11001101, 0x00, 0x02] = .ok (.call 0x0200, []) ∧
  decode [0b11101111] = .ok (.rst5, []) ∧
  decode [0b11110101] = .ok (.pushPsw, []) ∧
  decode [0b11011011, 0x10] = .ok (.inPort 0x10, []) ∧
  decode [0b01110110] = .ok (.hlt, []) ∧
  decode [0b11101101] = .ok (.undocumentedED, []) ∧
  decode [0b11000011, 0x00] = .error (.operandBytesMissing 0b11000011)

/-- Decoding the encoding of any instruction gives it back, with every operand and the bytes after it. That each
undocumented byte is a term of one byte is the choice of the model (log entry 4). Derived from 30_encoding.md R90,
30_encoding.md R91, 30_encoding.md R98, 30_encoding.md R104. -/
def Obligations.DecodeOfEncode : Prop :=
  ∀ (i : Instr) (rest : List Byte), decode (encode i ++ rest) = .ok (i, rest)

/-- Every three fetched bytes begin with the encoding of the instruction decoded from them. That each undocumented byte is
a term of one byte is the choice of the model (log entry 4). Derived from 30_encoding.md R90, 30_encoding.md R91,
30_encoding.md R104, 30_encoding.md R107. -/
def Obligations.EncodeOfDecode : Prop :=
  ∀ op b1 b2 : Byte, ∃ rest : List Byte, encode (decodeOp op b1 b2) ++ rest = [op, b1, b2]

/-- The length of an instruction follows from its opcode byte as R92 gives it. Formalises R92. -/
def Obligations.LengthByOpcode : Prop :=
  (∀ op b1 b2 : Byte, documented op = true →
    (encode (decodeOp op b1 b2)).length =
      if op &&& 0xCF = 0x01 ∨ op &&& 0xE7 = 0x22 ∨ op &&& 0xC7 = 0xC2 ∨ op &&& 0xC7 = 0xC4 ∨ op = 0xC3 ∨ op = 0xCD then 3
      else if op &&& 0xC7 = 0x06 ∨ op &&& 0xC7 = 0xC6 ∨ op = 0xD3 ∨ op = 0xDB then 2
      else 1) ∧
  ∀ b1 b2 : Byte,
    let ofLength := fun n : Nat => (List.range 256).countP fun k =>
      documented (BitVec.ofNat 8 k) && (encode (decodeOp (BitVec.ofNat 8 k) b1 b2)).length == n
    ofLength 1 = 200 ∧ ofLength 2 = 18 ∧ ofLength 3 = 26

/-- The twelve undocumented bytes are exactly the ones without an instruction, and a step that fetches one faults in every
configuration. Formalises R105. -/
def Obligations.UndocumentedBytesAlwaysFault : Prop :=
  (∀ op b1 b2 : Byte, (decodeOp op b1 b2).wellFormed = false ↔
    op ∈ ([0x08, 0x10, 0x18, 0x20, 0x28, 0x30, 0x38, 0xCB, 0xD9, 0xDD, 0xED, 0xFD] : List Byte)) ∧
  (∀ (cfg : Config) (op : Byte),
    op ∈ ([0x08, 0x10, 0x18, 0x20, 0x28, 0x30, 0x38, 0xCB, 0xD9, 0xDD, 0xED, 0xFD] : List Byte) →
      implemented cfg op = false) ∧
  ∀ s : State, s.run = .running → (∀ limit, s.cfg.pcLimit = some limit → s.pc.toNat < limit.val) →
    memRead s s.pc ∈ ([0x08, 0x10, 0x18, 0x20, 0x28, 0x30, 0x38, 0xCB, 0xD9, 0xDD, 0xED, 0xFD] : List Byte) →
      ∃ t, step s = .next t ∧ t.run = .haltedFault ∧ t.fault = some ⟨memRead s s.pc, s.pc⟩

/-- An instruction placed by withFetchWord is what the next step runs. Derived from 30_encoding.md R110, 30_encoding.md
R112, 20_memory.md R73. -/
def Obligations.TableWordRuns : Prop :=
  ∀ (s : State) (nbits w : Nat), s.run = .running →
    (∀ limit, s.cfg.pcLimit = some limit → s.pc.toNat < limit.val) →
    implemented s.cfg (BitVec.ofNat 8 (w % 2 ^ nbits)) = true →
      ∃ i, decodeTableWord nbits w = some i ∧
        step (s.withFetchWord nbits w) =
          exec i { s.withFetchWord nbits w with pc := s.pc + 1 }

/-! ## The step, the fault, the ends of a run -/

/-- A step executes the instruction that the bytes at PC decode to, with PC moved past the opcode byte. Derived from
30_encoding.md R110, 30_encoding.md R107, 60_exceptions.md R277. -/
def Obligations.StepRunsDecoded : Prop :=
  ∀ (s : State) (i : Instr) (rest : List Byte), s.run = .running →
    (∀ limit, s.cfg.pcLimit = some limit → s.pc.toNat < limit.val) →
    decode [memRead s s.pc, memRead s (s.pc + 1), memRead s (s.pc + 2)] = .ok (i, rest) →
    i.wellFormed = true → implemented s.cfg (memRead s s.pc) = true →
      step s = exec i { s with pc := s.pc + 1 }

/-- A step from a halted state returns it unchanged (the choice of the model, log entry 3). Derived from 60_exceptions.md
section 3. -/
def Obligations.HaltedStateStays : Prop :=
  ∀ s : State, s.run ≠ .running → step s = .next s

/-- A running machine whose PC has reached PC_LIMIT halts cleanly and changes nothing else; below the bound or without one
it runs an instruction. Formalises R275. -/
def Obligations.PcLimitHaltsCleanly : Prop :=
  ∀ s : State, s.run = .running →
    (∀ limit, s.cfg.pcLimit = some limit →
      (limit.val ≤ s.pc.toNat → step s = .next { s with run := .haltedNormal }) ∧
      (s.pc.toNat < limit.val → step s = runInstruction s)) ∧
    (s.cfg.pcLimit = none → step s = runInstruction s)

/-- The gate: a fetched byte outside IMPLEMENTED raises the fault with its whole effect, and a byte inside it does not.
Formalises R271, R272, R273. -/
def Obligations.UnimplementedOpcodeFault : Prop :=
  ∀ s : State, s.run = .running → (∀ limit, s.cfg.pcLimit = some limit → s.pc.toNat < limit.val) →
    (implemented s.cfg (memRead s s.pc) = false →
      ∃ t, step s = .next t ∧ t.fault = some ⟨memRead s s.pc, s.pc⟩ ∧ t.run = .haltedFault ∧ t.pc = s.pc + 1 ∧
        UnchangedExcept [.fault, .run, .pc] s t) ∧
    (implemented s.cfg (memRead s s.pc) = true → ∃ t, step s = .next t ∧ t.run ≠ .haltedFault ∧ t.fault = s.fault)

/-- A running machine stops running only by HLT, by the PC bound or by the fault, each with the final state of R310.
Derived from 70_reset_and_hazards.md R310, 60_exceptions.md R270, 60_exceptions.md R274. -/
def Obligations.RunEndsInThreeWays : Prop :=
  ∀ s t : State, s.Inv → s.run = .running → step s = .next t → t.run ≠ .running →
    (t.run = .haltedNormal ∧ t.fault = none ∧
      (((∃ limit, s.cfg.pcLimit = some limit ∧ limit.val ≤ s.pc.toNat) ∧ t.pc = s.pc) ∨
       (memRead s s.pc = 0x76 ∧ implemented s.cfg 0x76 = true ∧ t.pc = s.pc + 1))) ∨
    (t.run = .haltedFault ∧ t.fault = some ⟨memRead s s.pc, s.pc⟩ ∧
      implemented s.cfg (memRead s s.pc) = false ∧ t.pc = s.pc + 1)

/-- Every instruction executes and every step answers a next state: nothing stops the machine without one. From a running
state this is R309. That a halted state steps, to itself, is the choice of the model (log entry 3; the spec defines no
step there), and so is that exec answers for the terms of the undocumented bytes (log entry 7; the gate faults before
they execute). Derived from 60_exceptions.md R274, 70_reset_and_hazards.md R309, 20_memory.md R62. -/
def Obligations.EveryStepAnswers : Prop :=
  (∀ (i : Instr) (s : State), ∃ t, exec i s = .next t) ∧ ∀ s : State, ∃ t, step s = .next t

/-! ## Reset, launch, invariants -/

/-- Reset gives every piece of state the value of R40, from any state and for any parameters. Formalises R40, R300. -/
def Obligations.ResetValues : Prop :=
  (∀ cfg : Config,
    let s := State.construct cfg
    (∀ r : Reg, s.reg r = 0x00) ∧ s.pc = 0x0000 ∧ s.sp = 0x0000 ∧
      s.flags.z = true ∧ s.flags.s = true ∧ s.flags.cy = true ∧ s.flags.ac = true ∧ s.flags.p = true ∧
      flagByte s.flags = 0xD7 ∧ s.inte = true ∧ (∀ addr : Word, memRead s addr = 0x00) ∧
      s.run = .running ∧ s.fault = none ∧ s.cfg = cfg) ∧
  State.reset = State.construct Config.default ∧ memSize Config.default = 16384 ∧ Config.default.pcLimit = none ∧
  (∀ op : Byte, implemented Config.default op = documented op) ∧
  ∀ s : State, resetAgain s = State.construct s.cfg

/-- The state after reset meets the invariant, for the defaults and for any parameters. Derived from 10_state.md R34,
10_state.md R37, 10_state.md R40. -/
def Obligations.ResetMeetsInvariant : Prop :=
  State.reset.Inv ∧ ∀ cfg : Config, (State.construct cfg).Inv

/-- Every step keeps the invariant: memory canonical and inside the image, a fault record exactly in halted_fault. A step
from a halted state is the choice of the model (log entry 3). Derived from 10_state.md R34, 10_state.md R37,
20_memory.md R62. -/
def Obligations.StepKeepsInvariant : Prop :=
  ∀ s t : State, s.Inv → step s = .next t → t.Inv

/-- No step changes a parameter, and a step appends at most one port access to the history (the history is the model's
own, log entry 2). That the parameters are a field of the state is log entry 1, and a step from a halted state log
entry 3, both choices of the model. Derived from 10_state.md R39, 70_reset_and_hazards.md R311, 10_state.md R35. -/
def Obligations.ParametersNeverChange : Prop :=
  ∀ s t : State, step s = .next t → t.cfg = s.cfg ∧ (t.io = s.io ∨ ∃ ev, t.io = s.io ++ [ev])

/-- Launch refuses an image longer than memory and otherwise gives the reset state with the image at offset 0. Formalises
R301, R302. -/
def Obligations.LaunchPlacesImage : Prop :=
  ∀ (cfg : Config) (image : List Byte),
    (memSize cfg < image.length → launch cfg image = .error .imageTooLarge) ∧
    (image.length ≤ memSize cfg → ∃ s, launch cfg image = .ok s ∧ s.Inv ∧
      (∀ addr : Word, memRead s addr = image.getD (addr.toNat % memSize cfg) 0x00) ∧
      UnchangedExcept [.mem] (State.construct cfg) s)

/-- Every instruction changes only what the spec lets it write: registers, each flag, SP, INTE, sequencer, history,
parameters, and each byte of memory. That the terms of the undocumented bytes execute at all is the choice of the
model (log entry 7). Derived from 10_state.md R24, 10_state.md R31, 10_state.md R27, 10_state.md R32, 43_branch.md
R220, 20_memory.md R61, 20_memory.md R76. -/
def Obligations.FrameOfEveryInstruction : Prop :=
  ∀ (i : Instr) (s t : State), exec i s = .next t →
    UnchangedExcept (instrWrites i s) s t ∧ StoresOnlyAt (instrStores i s) s t

/-- No step reads INTE: under the same answer of IO_ENV, two states that differ in INTE alone step alike in everything
else. For IN this holds under the same answer of IO_ENV: that both states are given the byte Config.ioRead has for
their equal history and port is the choice of the model (log entry 2), as is the step of a halted state (log entry 3).
Derived from 10_state.md R32, 60_exceptions.md R278. -/
def Obligations.InteReadByNothing : Prop :=
  ∀ (s t : State) (v : Bool), step s = .next t →
    ∃ u, step { s with inte := v } = .next u ∧ { u with inte := t.inte } = t

/-! ## Memory, pairs, operands, the stack, the flag byte -/

/-- A byte read after a byte write: the value at every address of the same index, the old byte at every other. Formalises
R61. -/
def Obligations.ReadAfterWrite : Prop :=
  ∀ (s : State) (a b : Word) (v : Byte),
    memRead (memWrite a v s) b =
      (if b.toNat % memSize s.cfg = a.toNat % memSize s.cfg then v else memRead s b) ∧
    UnchangedExcept [.mem] s (memWrite a v s)

/-- A word in memory has its low byte at the lower address, and it may wrap from the last index to the first. Formalises
R65. -/
def Obligations.WordsAreLittleEndian : Prop :=
  ∀ (s : State) (addr w : Word),
    memRead (memWriteWord addr w s) addr = lowByte w ∧
    memRead (memWriteWord addr w s) (addr + 1) = highByte w ∧
    memReadWord (memWriteWord addr w s) addr = w ∧
    (memReadWord s addr).toNat = (memRead s (addr + 1)).toNat * 256 + (memRead s addr).toNat ∧
    (addr.toNat % memSize s.cfg = memSize s.cfg - 1 → s.index (addr + 1) = 0)

/-- The pairs are views of two registers, the first the high byte. Formalises R22. -/
def Obligations.PairsAreViews : Prop :=
  (∀ s : State, s.bc.toNat = s.b.toNat * 256 + s.c.toNat ∧ s.de.toNat = s.d.toNat * 256 + s.e.toNat ∧
    s.hl.toNat = s.h.toNat * 256 + s.l.toNat) ∧
  (∀ (s : State) (w : Word), (s.setPair .bc w).b = highByte w ∧ (s.setPair .bc w).c = lowByte w ∧
    (s.setPair .de w).d = highByte w ∧ (s.setPair .de w).e = lowByte w ∧
    (s.setPair .hl w).h = highByte w ∧ (s.setPair .hl w).l = lowByte w) ∧
  (∀ (s : State) (k : RegPair) (w : Word), (s.setPair k w).pair k = w ∧ UnchangedExcept (pairParts k) s (s.setPair k w)) ∧
  ∀ w : Word, joinBytes (highByte w) (lowByte w) = w ∧ (highByte w).toNat = w.toNat / 256 ∧
    (lowByte w).toNat = w.toNat % 256

/-- The operand of a register form is the register, and of code 110 the byte at HL. Formalises R170. -/
def Obligations.OperandFetch : Prop :=
  (∀ (r : Reg) (s : State), readOperand (.reg r) s = s.reg r) ∧
  (∀ s : State, readOperand .m s = memRead s (joinBytes s.h s.l)) ∧
  Operand.ofCode 6 = .m ∧ Operand.ofCode 7 = .reg .a ∧ ∀ k : Fin 8, (Operand.ofCode k).code = k.val

/-- push16 stores the word high byte first below SP and moves SP by 2; pop16 takes it back. Formalises R76. -/
def Obligations.PushThenPop : Prop :=
  ∀ (s : State) (w : Word),
    memRead (push16 w s) (s.sp - 1) = highByte w ∧ memRead (push16 w s) (s.sp - 2) = lowByte w ∧
    (push16 w s).sp = s.sp - 2 ∧ StoresWord (s.sp - 2) w s (push16 w s) ∧
    UnchangedExcept [.sp, .mem] s (push16 w s) ∧
    topOfStack s = joinBytes (memRead s (s.sp + 1)) (memRead s s.sp) ∧
    (dropWord s).sp = s.sp + 2 ∧ UnchangedExcept [.sp] s (dropWord s) ∧
    topOfStack (push16 w s) = w ∧ (dropWord (push16 w s)).sp = s.sp

/-- The flag byte is 2 + 128 S + 64 Z + 16 AC + 4 P + CY, and reading it back ignores bits 5, 3 and 1. Formalises R30. -/
def Obligations.FlagByteLayout : Prop :=
  (∀ f : Flags, (flagByte f).toNat =
    2 + 128 * f.s.toNat + 64 * f.z.toNat + 16 * f.ac.toNat + 4 * f.p.toNat + f.cy.toNat) ∧
  ∀ v : Byte, (flagsOfByte v).s = v.toNat.testBit 7 ∧ (flagsOfByte v).z = v.toNat.testBit 6 ∧
    (flagsOfByte v).ac = v.toNat.testBit 4 ∧ (flagsOfByte v).p = v.toNat.testBit 2 ∧
    (flagsOfByte v).cy = v.toNat.testBit 0

/-- Each condition code tests its flag in its sense. Formalises R96. -/
def Obligations.ConditionsTestTheirFlag : Prop :=
  (∀ f : Flags, (f.holds .nz = true ↔ f.z = false) ∧ (f.holds .z = true ↔ f.z = true) ∧
    (f.holds .nc = true ↔ f.cy = false) ∧ (f.holds .c = true ↔ f.cy = true) ∧
    (f.holds .po = true ↔ f.p = false) ∧ (f.holds .pe = true ↔ f.p = true) ∧
    (f.holds .p = true ↔ f.s = false) ∧ (f.holds .m = true ↔ f.s = true)) ∧
  [0, 1, 2, 3, 4, 5, 6, 7].map Cond.ofCode = [.nz, .z, .nc, .c, .po, .pe, .p, .m]

/-! ## Data transfer instructions -/

/-- MOV r1,r2 for all 49 pairs of registers: encoding, result, PC, frame. Formalises R121. -/
def Obligations.MovBetweenRegisters : Prop :=
  ∀ (dst src : Reg) (s : State),
    encode (Instr.ofMov (.reg dst) (.reg src)) =
      [BitVec.ofNat 8 (0x40 + 8 * Operand.code (.reg dst) + Operand.code (.reg src))] ∧
    ∃ t, exec (Instr.ofMov (.reg dst) (.reg src)) s = .next t ∧ t.reg dst = s.reg src ∧ t.pc = s.pc ∧
      UnchangedExcept [.reg dst, .pc] s t

/-- MOV r,M for all seven registers: the byte at the old HL. Formalises R122. -/
def Obligations.MovFromMemory : Prop :=
  ∀ (dst : Reg) (s : State),
    encode (Instr.ofMov (.reg dst) .m) = [BitVec.ofNat 8 (0x46 + 8 * Operand.code (.reg dst))] ∧
    ∃ t, exec (Instr.ofMov (.reg dst) .m) s = .next t ∧ t.reg dst = memRead s (joinBytes s.h s.l) ∧ t.pc = s.pc ∧
      UnchangedExcept [.reg dst, .pc] s t

/-- MOV M,r for all seven registers and MVI M,d8: the byte at HL is written and nothing else. Formalises R123, R125. -/
def Obligations.StoresAtHL : Prop :=
  (∀ (src : Reg) (s : State),
    encode (Instr.ofMov .m (.reg src)) = [BitVec.ofNat 8 (0x70 + Operand.code (.reg src))] ∧
    ∃ t, exec (Instr.ofMov .m (.reg src)) s = .next t ∧ StoresByte (joinBytes s.h s.l) (s.reg src) s t ∧
      t.pc = s.pc ∧ UnchangedExcept [.mem, .pc] s t) ∧
  ∀ (d8 : Byte) (s : State),
    encode (.mviM d8) = [0x36, d8] ∧
    ∃ t, exec (.mviM d8) s = .next t ∧ StoresByte (joinBytes s.h s.l) d8 s t ∧ t.pc = s.pc + 1 ∧
      UnchangedExcept [.mem, .pc] s t

/-- MVI r,d8 for all seven registers. Formalises R124. -/
def Obligations.MviRegister : Prop :=
  ∀ (dst : Reg) (d8 : Byte) (s : State),
    encode (Instr.ofMvi (.reg dst) d8) = [BitVec.ofNat 8 (0x06 + 8 * Operand.code (.reg dst)), d8] ∧
    ∃ t, exec (Instr.ofMvi (.reg dst) d8) s = .next t ∧ t.reg dst = d8 ∧ t.pc = s.pc + 1 ∧
      UnchangedExcept [.reg dst, .pc] s t

/-- LXI B, LXI D, LXI H and LXI SP: the first operand byte is the low one. Formalises R126, R127. -/
def Obligations.LxiPairsAndSP : Prop :=
  ∀ (b1 b2 : Byte) (s : State),
    (encode (.lxiB (joinBytes b2 b1)) = [0x01, b1, b2] ∧
      ∃ t, exec (.lxiB (joinBytes b2 b1)) s = .next t ∧ t.c = b1 ∧ t.b = b2 ∧ t.pc = s.pc + 2 ∧
        UnchangedExcept [.reg .b, .reg .c, .pc] s t) ∧
    (encode (.lxiD (joinBytes b2 b1)) = [0x11, b1, b2] ∧
      ∃ t, exec (.lxiD (joinBytes b2 b1)) s = .next t ∧ t.e = b1 ∧ t.d = b2 ∧ t.pc = s.pc + 2 ∧
        UnchangedExcept [.reg .d, .reg .e, .pc] s t) ∧
    (encode (.lxiH (joinBytes b2 b1)) = [0x21, b1, b2] ∧
      ∃ t, exec (.lxiH (joinBytes b2 b1)) s = .next t ∧ t.l = b1 ∧ t.h = b2 ∧ t.pc = s.pc + 2 ∧
        UnchangedExcept [.reg .h, .reg .l, .pc] s t) ∧
    (encode (.lxiSp (joinBytes b2 b1)) = [0x31, b1, b2] ∧
      ∃ t, exec (.lxiSp (joinBytes b2 b1)) s = .next t ∧ t.sp.toNat = b2.toNat * 256 + b1.toNat ∧ t.pc = s.pc + 2 ∧
        UnchangedExcept [.sp, .pc] s t)

/-- LDA a16 and LDAX B, LDAX D: A is the byte at the address. Formalises R128, R132. -/
def Obligations.AccumulatorLoads : Prop :=
  (∀ (a16 : Word) (s : State), encode (.lda a16) = [0x3A, lowByte a16, highByte a16] ∧
    ∃ t, exec (.lda a16) s = .next t ∧ t.a = memRead s a16 ∧ t.pc = s.pc + 2 ∧ UnchangedExcept [.reg .a, .pc] s t) ∧
  (∀ s : State, encode .ldaxB = [0x0A] ∧
    ∃ t, exec .ldaxB s = .next t ∧ t.a = memRead s (joinBytes s.b s.c) ∧ t.pc = s.pc ∧
      UnchangedExcept [.reg .a, .pc] s t) ∧
  ∀ s : State, encode .ldaxD = [0x1A] ∧
    ∃ t, exec .ldaxD s = .next t ∧ t.a = memRead s (joinBytes s.d s.e) ∧ t.pc = s.pc ∧
      UnchangedExcept [.reg .a, .pc] s t

/-- STA a16 and STAX B, STAX D: the byte at the address is A and no other byte changes. Formalises R129, R133. -/
def Obligations.AccumulatorStores : Prop :=
  (∀ (a16 : Word) (s : State), encode (.sta a16) = [0x32, lowByte a16, highByte a16] ∧
    ∃ t, exec (.sta a16) s = .next t ∧ StoresByte a16 s.a s t ∧ t.pc = s.pc + 2 ∧ UnchangedExcept [.mem, .pc] s t) ∧
  (∀ s : State, encode .staxB = [0x02] ∧
    ∃ t, exec .staxB s = .next t ∧ StoresByte (joinBytes s.b s.c) s.a s t ∧ t.pc = s.pc ∧
      UnchangedExcept [.mem, .pc] s t) ∧
  ∀ s : State, encode .staxD = [0x12] ∧
    ∃ t, exec .staxD s = .next t ∧ StoresByte (joinBytes s.d s.e) s.a s t ∧ t.pc = s.pc ∧
      UnchangedExcept [.mem, .pc] s t

/-- LHLD and SHLD: L with the byte at a16, H with the byte at a16 + 1. Formalises R130, R131. -/
def Obligations.DirectTransferOfHL : Prop :=
  (∀ (a16 : Word) (s : State), encode (.lhld a16) = [0x2A, lowByte a16, highByte a16] ∧
    ∃ t, exec (.lhld a16) s = .next t ∧ t.l = memRead s a16 ∧ t.h = memRead s (a16 + 1) ∧ t.pc = s.pc + 2 ∧
      UnchangedExcept [.reg .h, .reg .l, .pc] s t) ∧
  ∀ (a16 : Word) (s : State), encode (.shld a16) = [0x22, lowByte a16, highByte a16] ∧
    ∃ t, exec (.shld a16) s = .next t ∧ memRead t a16 = s.l ∧ memRead t (a16 + 1) = s.h ∧
      (∀ addr : Word, s.index addr ≠ s.index a16 → s.index addr ≠ s.index (a16 + 1) → memRead t addr = memRead s addr) ∧
      t.pc = s.pc + 2 ∧ UnchangedExcept [.mem, .pc] s t

/-- XCHG swaps HL and DE at once, and twice restores them. Formalises R134. -/
def Obligations.XchgSwapsPairs : Prop :=
  ∀ s : State, encode .xchg = [0xEB] ∧
    ∃ t, exec .xchg s = .next t ∧ t.h = s.d ∧ t.l = s.e ∧ t.d = s.h ∧ t.e = s.l ∧ t.pc = s.pc ∧
      UnchangedExcept [.reg .h, .reg .l, .reg .d, .reg .e, .pc] s t ∧
      ∃ u, exec .xchg t = .next u ∧ ∀ r : Reg, u.reg r = s.reg r

/-! ## Arithmetic instructions -/

/-- ADD and ADC of every register and of M, ADI and ACI: result, all five flags, PC, frame. Formalises R153, R154, R155,
R156. -/
def Obligations.AdditionsToA : Prop :=
  (∀ (o : Operand) (s : State),
    (encode (Instr.ofAlu .add o) = [BitVec.ofNat 8 (0x80 + o.code)] ∧
      ∃ t, exec (Instr.ofAlu .add o) s = .next t ∧ IsSum s.a (readOperand o s) false t.a t.flags ∧ t.pc = s.pc ∧
        UnchangedExcept (.reg .a :: .pc :: flagParts) s t) ∧
    (encode (Instr.ofAlu .adc o) = [BitVec.ofNat 8 (0x88 + o.code)] ∧
      ∃ t, exec (Instr.ofAlu .adc o) s = .next t ∧ IsSum s.a (readOperand o s) s.flags.cy t.a t.flags ∧ t.pc = s.pc ∧
        UnchangedExcept (.reg .a :: .pc :: flagParts) s t)) ∧
  ∀ (d8 : Byte) (s : State),
    (encode (.adi d8) = [0xC6, d8] ∧
      ∃ t, exec (.adi d8) s = .next t ∧ IsSum s.a d8 false t.a t.flags ∧ t.pc = s.pc + 1 ∧
        UnchangedExcept (.reg .a :: .pc :: flagParts) s t) ∧
    (encode (.aci d8) = [0xCE, d8] ∧
      ∃ t, exec (.aci d8) s = .next t ∧ IsSum s.a d8 s.flags.cy t.a t.flags ∧ t.pc = s.pc + 1 ∧
        UnchangedExcept (.reg .a :: .pc :: flagParts) s t)

/-- SUB and SBB of every register and of M, SUI and SBI: result, borrow and the other flags, PC, frame. Formalises R157,
R158, R159, R160. -/
def Obligations.SubtractionsFromA : Prop :=
  (∀ (o : Operand) (s : State),
    (encode (Instr.ofAlu .sub o) = [BitVec.ofNat 8 (0x90 + o.code)] ∧
      ∃ t, exec (Instr.ofAlu .sub o) s = .next t ∧ IsDifference s.a (readOperand o s) false t.a t.flags ∧ t.pc = s.pc ∧
        UnchangedExcept (.reg .a :: .pc :: flagParts) s t) ∧
    (encode (Instr.ofAlu .sbb o) = [BitVec.ofNat 8 (0x98 + o.code)] ∧
      ∃ t, exec (Instr.ofAlu .sbb o) s = .next t ∧ IsDifference s.a (readOperand o s) s.flags.cy t.a t.flags ∧
        t.pc = s.pc ∧ UnchangedExcept (.reg .a :: .pc :: flagParts) s t)) ∧
  ∀ (d8 : Byte) (s : State),
    (encode (.sui d8) = [0xD6, d8] ∧
      ∃ t, exec (.sui d8) s = .next t ∧ IsDifference s.a d8 false t.a t.flags ∧ t.pc = s.pc + 1 ∧
        UnchangedExcept (.reg .a :: .pc :: flagParts) s t) ∧
    (encode (.sbi d8) = [0xDE, d8] ∧
      ∃ t, exec (.sbi d8) s = .next t ∧ IsDifference s.a d8 s.flags.cy t.a t.flags ∧ t.pc = s.pc + 1 ∧
        UnchangedExcept (.reg .a :: .pc :: flagParts) s t)

/-- INR r and DCR r for all seven registers: result, Z S P AC, CY kept, PC, frame. Formalises R161, R163. -/
def Obligations.IncrementDecrementRegister : Prop :=
  ∀ (r : Reg) (s : State),
    (encode (Instr.ofInr (.reg r)) = [BitVec.ofNat 8 (0x04 + 8 * Operand.code (.reg r))] ∧
      ∃ t, exec (Instr.ofInr (.reg r)) s = .next t ∧ (t.reg r).toNat = ((s.reg r).toNat + 1) % 256 ∧
        FlagsOfResult t.flags (t.reg r) ∧ (t.flags.ac = true ↔ (s.reg r).toNat % 16 = 15) ∧ t.pc = s.pc ∧
        UnchangedExcept [.reg r, .z, .s, .p, .ac, .pc] s t) ∧
    (encode (Instr.ofDcr (.reg r)) = [BitVec.ofNat 8 (0x05 + 8 * Operand.code (.reg r))] ∧
      ∃ t, exec (Instr.ofDcr (.reg r)) s = .next t ∧ (t.reg r).toNat = ((s.reg r).toNat + 255) % 256 ∧
        FlagsOfResult t.flags (t.reg r) ∧ (t.flags.ac = true ↔ (s.reg r).toNat % 16 ≠ 0) ∧ t.pc = s.pc ∧
        UnchangedExcept [.reg r, .z, .s, .p, .ac, .pc] s t)

/-- INR M and DCR M: the byte at HL, Z S P AC, CY kept, PC, frame. Formalises R162, R164. -/
def Obligations.IncrementDecrementMemory : Prop :=
  ∀ s : State,
    (encode .inrM = [0x34] ∧
      ∃ t, exec .inrM s = .next t ∧
        StoresByte (joinBytes s.h s.l) (BitVec.ofNat 8 ((memRead s (joinBytes s.h s.l)).toNat + 1)) s t ∧
        FlagsOfResult t.flags (memRead t (joinBytes s.h s.l)) ∧
        (t.flags.ac = true ↔ (memRead s (joinBytes s.h s.l)).toNat % 16 = 15) ∧ t.pc = s.pc ∧
        UnchangedExcept [.mem, .z, .s, .p, .ac, .pc] s t) ∧
    (encode .dcrM = [0x35] ∧
      ∃ t, exec .dcrM s = .next t ∧
        StoresByte (joinBytes s.h s.l) (BitVec.ofNat 8 ((memRead s (joinBytes s.h s.l)).toNat + 255)) s t ∧
        FlagsOfResult t.flags (memRead t (joinBytes s.h s.l)) ∧
        (t.flags.ac = true ↔ (memRead s (joinBytes s.h s.l)).toNat % 16 ≠ 0) ∧ t.pc = s.pc ∧
        UnchangedExcept [.mem, .z, .s, .p, .ac, .pc] s t)

/-- INX and DCX of BC, DE, HL and SP: plus or minus one modulo 2^16, no flag. Formalises R165, R166. -/
def Obligations.InxAndDcx : Prop :=
  ∀ (k : RegPair) (s : State),
    (encode (Instr.ofInx k) = [BitVec.ofNat 8 (0x03 + 16 * k.code)] ∧
      ∃ t, exec (Instr.ofInx k) s = .next t ∧ (t.pair k).toNat = ((s.pair k).toNat + 1) % 65536 ∧ t.pc = s.pc ∧
        UnchangedExcept (.pc :: pairParts k) s t) ∧
    (encode (Instr.ofDcx k) = [BitVec.ofNat 8 (0x0B + 16 * k.code)] ∧
      ∃ t, exec (Instr.ofDcx k) s = .next t ∧ (t.pair k).toNat = ((s.pair k).toNat + 65535) % 65536 ∧ t.pc = s.pc ∧
        UnchangedExcept (.pc :: pairParts k) s t)

/-- DAD of BC, DE, HL and SP: HL is the sum modulo 2^16, CY the carry out of bit 15. Formalises R167. -/
def Obligations.DadAddsToHL : Prop :=
  ∀ (k : RegPair) (s : State),
    encode (Instr.ofDad k) = [BitVec.ofNat 8 (0x09 + 16 * k.code)] ∧
    ∃ t, exec (Instr.ofDad k) s = .next t ∧ t.hl.toNat = (s.hl.toNat + (s.pair k).toNat) % 65536 ∧
      (t.flags.cy = true ↔ 65536 ≤ s.hl.toNat + (s.pair k).toNat) ∧ t.pc = s.pc ∧
      UnchangedExcept [.reg .h, .reg .l, .cy, .pc] s t

/-- DAA: both corrections from the old A, one addition, CY set when the high one applies. Formalises R168. -/
def Obligations.DaaCorrection : Prop :=
  ∀ s : State,
    let lsb := s.a.toNat % 16
    let msb := s.a.toNat / 16
    let low := if s.flags.ac = true ∨ 9 < lsb then 0x06 else 0x00
    let high := if s.flags.cy = true ∨ 9 < msb ∨ (9 ≤ msb ∧ 9 < lsb) then 0x60 else 0x00
    encode .daa = [0x27] ∧
    ∃ t, exec .daa s = .next t ∧ t.a.toNat = (s.a.toNat + high + low) % 256 ∧ FlagsOfResult t.flags t.a ∧
      (t.flags.cy = true ↔ high = 0x60) ∧ (t.flags.ac = true ↔ 16 ≤ lsb + low) ∧ t.pc = s.pc ∧
      UnchangedExcept (.reg .a :: .pc :: flagParts) s t

/-- ACI then DAA adds packed decimal numbers with carry in and carry out. Derived from 41_arithmetic.md R156,
41_arithmetic.md R168. -/
def Obligations.DecimalAdditionByDaa : Prop :=
  ∀ (x y : Nat) (s : State), x < 100 → y < 100 → s.a = BitVec.ofNat 8 (x / 10 * 16 + x % 10) →
    ∃ t u, exec (.aci (BitVec.ofNat 8 (y / 10 * 16 + y % 10))) s = .next t ∧ exec .daa t = .next u ∧
      (u.flags.cy = true ↔ 100 ≤ x + y + s.flags.cy.toNat) ∧
      u.a = BitVec.ofNat 8 ((x + y + s.flags.cy.toNat) % 100 / 10 * 16 + (x + y + s.flags.cy.toNat) % 10)

/-! ## Logical instructions -/

/-- ANA, XRA, ORA of every register and of M, ANI, XRI, ORI: result, flags, PC, frame. Formalises R181, R182, R183, R184,
R185, R186. -/
def Obligations.LogicalOperations : Prop :=
  (∀ (o : Operand) (s : State),
    (encode (Instr.ofAlu .ana o) = [BitVec.ofNat 8 (0xA0 + o.code)] ∧
      ∃ t, exec (Instr.ofAlu .ana o) s = .next t ∧ t.a = s.a &&& readOperand o s ∧ FlagsOfResult t.flags t.a ∧
        t.flags.cy = false ∧ t.flags.ac = (s.a.getLsbD 3 || (readOperand o s).getLsbD 3) ∧ t.pc = s.pc ∧
        UnchangedExcept (.reg .a :: .pc :: flagParts) s t) ∧
    (encode (Instr.ofAlu .xra o) = [BitVec.ofNat 8 (0xA8 + o.code)] ∧
      ∃ t, exec (Instr.ofAlu .xra o) s = .next t ∧ t.a = s.a ^^^ readOperand o s ∧ FlagsOfResult t.flags t.a ∧
        t.flags.cy = false ∧ t.flags.ac = false ∧ t.pc = s.pc ∧ UnchangedExcept (.reg .a :: .pc :: flagParts) s t) ∧
    (encode (Instr.ofAlu .ora o) = [BitVec.ofNat 8 (0xB0 + o.code)] ∧
      ∃ t, exec (Instr.ofAlu .ora o) s = .next t ∧ t.a = s.a ||| readOperand o s ∧ FlagsOfResult t.flags t.a ∧
        t.flags.cy = false ∧ t.flags.ac = false ∧ t.pc = s.pc ∧ UnchangedExcept (.reg .a :: .pc :: flagParts) s t)) ∧
  ∀ (d8 : Byte) (s : State),
    (encode (.ani d8) = [0xE6, d8] ∧
      ∃ t, exec (.ani d8) s = .next t ∧ t.a = s.a &&& d8 ∧ FlagsOfResult t.flags t.a ∧ t.flags.cy = false ∧
        t.flags.ac = (s.a.getLsbD 3 || d8.getLsbD 3) ∧ t.pc = s.pc + 1 ∧ UnchangedExcept (.reg .a :: .pc :: flagParts) s t) ∧
    (encode (.xri d8) = [0xEE, d8] ∧
      ∃ t, exec (.xri d8) s = .next t ∧ t.a = s.a ^^^ d8 ∧ FlagsOfResult t.flags t.a ∧ t.flags.cy = false ∧
        t.flags.ac = false ∧ t.pc = s.pc + 1 ∧ UnchangedExcept (.reg .a :: .pc :: flagParts) s t) ∧
    (encode (.ori d8) = [0xF6, d8] ∧
      ∃ t, exec (.ori d8) s = .next t ∧ t.a = s.a ||| d8 ∧ FlagsOfResult t.flags t.a ∧ t.flags.cy = false ∧
        t.flags.ac = false ∧ t.pc = s.pc + 1 ∧ UnchangedExcept (.reg .a :: .pc :: flagParts) s t)

/-- CMP of every register and of M, and CPI: the flags of the difference, A unchanged. Formalises R187, R188. -/
def Obligations.CompareSetsFlagsOnly : Prop :=
  (∀ (o : Operand) (s : State),
    encode (Instr.ofAlu .cmp o) = [BitVec.ofNat 8 (0xB8 + o.code)] ∧
    ∃ t, exec (Instr.ofAlu .cmp o) s = .next t ∧
      (∃ res : Byte, IsDifference s.a (readOperand o s) false res t.flags) ∧
      (t.flags.z = true ↔ s.a = readOperand o s) ∧ t.pc = s.pc ∧ UnchangedExcept (.pc :: flagParts) s t) ∧
  ∀ (d8 : Byte) (s : State),
    encode (.cpi d8) = [0xFE, d8] ∧
    ∃ t, exec (.cpi d8) s = .next t ∧ (∃ res : Byte, IsDifference s.a d8 false res t.flags) ∧
      (t.flags.z = true ↔ s.a = d8) ∧ t.pc = s.pc + 1 ∧ UnchangedExcept (.pc :: flagParts) s t

/-- RLC, RRC, RAL and RAR: A and CY in numbers, nothing else. Formalises R189, R190, R191, R192. -/
def Obligations.RotatesOfA : Prop :=
  ∀ s : State,
    (encode .rlc = [0x07] ∧ ∃ t, exec .rlc s = .next t ∧ t.a.toNat = 2 * s.a.toNat % 256 + s.a.toNat / 128 ∧
      (t.flags.cy = true ↔ 128 ≤ s.a.toNat) ∧ t.pc = s.pc ∧ UnchangedExcept [.reg .a, .cy, .pc] s t) ∧
    (encode .rrc = [0x0F] ∧ ∃ t, exec .rrc s = .next t ∧ t.a.toNat = s.a.toNat / 2 + 128 * (s.a.toNat % 2) ∧
      (t.flags.cy = true ↔ s.a.toNat % 2 = 1) ∧ t.pc = s.pc ∧ UnchangedExcept [.reg .a, .cy, .pc] s t) ∧
    (encode .ral = [0x17] ∧ ∃ t, exec .ral s = .next t ∧ t.a.toNat = 2 * s.a.toNat % 256 + s.flags.cy.toNat ∧
      (t.flags.cy = true ↔ 128 ≤ s.a.toNat) ∧ t.pc = s.pc ∧ UnchangedExcept [.reg .a, .cy, .pc] s t) ∧
    (encode .rar = [0x1F] ∧ ∃ t, exec .rar s = .next t ∧ t.a.toNat = s.a.toNat / 2 + 128 * s.flags.cy.toNat ∧
      (t.flags.cy = true ↔ s.a.toNat % 2 = 1) ∧ t.pc = s.pc ∧ UnchangedExcept [.reg .a, .cy, .pc] s t)

/-- CMA, CMC and STC: the complement of A, the complement of CY, CY set. Formalises R193, R194, R195. -/
def Obligations.ComplementsAndCarry : Prop :=
  ∀ s : State,
    (encode .cma = [0x2F] ∧ ∃ t, exec .cma s = .next t ∧ t.a.toNat = 255 - s.a.toNat ∧ t.pc = s.pc ∧
      UnchangedExcept [.reg .a, .pc] s t) ∧
    (encode .cmc = [0x3F] ∧ ∃ t, exec .cmc s = .next t ∧ t.flags.cy = !s.flags.cy ∧ t.pc = s.pc ∧
      UnchangedExcept [.cy, .pc] s t) ∧
    (encode .stc = [0x37] ∧ ∃ t, exec .stc s = .next t ∧ t.flags.cy = true ∧ t.pc = s.pc ∧
      UnchangedExcept [.cy, .pc] s t)

/-! ## Branch instructions -/

/-- JMP, PCHL and the eight conditional jumps: PC is the target, or past the operand bytes, and nothing else changes.
Formalises R212, R213, R219. -/
def Obligations.Jumps : Prop :=
  (∀ (b1 b2 : Byte) (s : State), encode (.jmp (joinBytes b2 b1)) = [0xC3, b1, b2] ∧
    ∃ t, exec (.jmp (joinBytes b2 b1)) s = .next t ∧ t.pc.toNat = b2.toNat * 256 + b1.toNat ∧
      UnchangedExcept [.pc] s t) ∧
  (∀ s : State, encode .pchl = [0xE9] ∧
    ∃ t, exec .pchl s = .next t ∧ t.pc.toNat = s.h.toNat * 256 + s.l.toNat ∧ UnchangedExcept [.pc] s t) ∧
  ∀ (k : Cond) (a16 : Word) (s : State),
    encode (Instr.ofJcc k a16) = [BitVec.ofNat 8 (0xC2 + 8 * k.code), lowByte a16, highByte a16] ∧
    ∃ t, exec (Instr.ofJcc k a16) s = .next t ∧ t.pc = (if s.flags.holds k = true then a16 else s.pc + 2) ∧
      UnchangedExcept [.pc] s t

/-- CALL, RST 0 to RST 7 and the eight conditional calls: the return address is pushed and PC is the target when taken.
Formalises R214, R215, R218. -/
def Obligations.CallsAndRestarts : Prop :=
  (∀ (a16 : Word) (s : State), encode (.call a16) = [0xCD, lowByte a16, highByte a16] ∧
    ∃ t, exec (.call a16) s = .next t ∧ StoresWord (s.sp - 2) (s.pc + 2) s t ∧ t.sp = s.sp - 2 ∧ t.pc = a16 ∧
      UnchangedExcept [.sp, .mem, .pc] s t) ∧
  (∀ (n : Fin 8) (s : State), encode (Instr.ofRst n) = [BitVec.ofNat 8 (0xC7 + 8 * n.val)] ∧
    ∃ t, exec (Instr.ofRst n) s = .next t ∧ StoresWord (s.sp - 2) s.pc s t ∧ t.sp = s.sp - 2 ∧
      t.pc.toNat = 8 * n.val ∧ UnchangedExcept [.sp, .mem, .pc] s t) ∧
  ∀ (k : Cond) (a16 : Word) (s : State),
    encode (Instr.ofCcc k a16) = [BitVec.ofNat 8 (0xC4 + 8 * k.code), lowByte a16, highByte a16] ∧
    ∃ t, exec (Instr.ofCcc k a16) s = .next t ∧
      if s.flags.holds k = true then
        StoresWord (s.sp - 2) (s.pc + 2) s t ∧ t.sp = s.sp - 2 ∧ t.pc = a16 ∧ UnchangedExcept [.sp, .mem, .pc] s t
      else t.pc = s.pc + 2 ∧ UnchangedExcept [.pc] s t

/-- RET and the eight conditional returns: PC is the popped word when taken. Formalises R216, R217. -/
def Obligations.Returns : Prop :=
  (∀ s : State, encode .ret = [0xC9] ∧
    ∃ t, exec .ret s = .next t ∧ t.pc.toNat = (memRead s (s.sp + 1)).toNat * 256 + (memRead s s.sp).toNat ∧
      t.sp = s.sp + 2 ∧ UnchangedExcept [.sp, .pc] s t) ∧
  ∀ (k : Cond) (s : State), encode (Instr.ofRcc k) = [BitVec.ofNat 8 (0xC0 + 8 * k.code)] ∧
    ∃ t, exec (Instr.ofRcc k) s = .next t ∧
      if s.flags.holds k = true then
        t.pc.toNat = (memRead s (s.sp + 1)).toNat * 256 + (memRead s s.sp).toNat ∧ t.sp = s.sp + 2 ∧
          UnchangedExcept [.sp, .pc] s t
      else t.pc = s.pc ∧ UnchangedExcept [.pc] s t

/-- A RET with SP and the two stack bytes undisturbed after a CALL comes back behind the CALL. Derived from 43_branch.md
R220, 20_memory.md R76. -/
def Obligations.CallThenReturn : Prop :=
  ∀ (a16 : Word) (s t r u : State), exec (.call a16) s = .next t →
    r.sp = t.sp → memRead r r.sp = memRead t t.sp → memRead r (r.sp + 1) = memRead t (t.sp + 1) →
    exec .ret r = .next u →
      memRead t (s.sp - 1) = highByte (s.pc + 2) ∧ memRead t (s.sp - 2) = lowByte (s.pc + 2) ∧
      u.pc = s.pc + 2 ∧ u.sp = s.sp

/-! ## Stack, port and control instructions -/

/-- PUSH B, D, H and PSW: the word at SP - 2, SP less by 2. Formalises R241, R242. -/
def Obligations.PushStoresPair : Prop :=
  ∀ (k : StackPair) (s : State),
    encode (Instr.ofPush k) = [BitVec.ofNat 8 (0xC5 + 16 * k.code)] ∧
    ∃ t, exec (Instr.ofPush k) s = .next t ∧
      StoresWord (s.sp - 2)
        (match k with
          | .bc => joinBytes s.b s.c
          | .de => joinBytes s.d s.e
          | .hl => joinBytes s.h s.l
          | .psw => joinBytes s.a (BitVec.ofNat 8 (2 + 128 * s.flags.s.toNat + 64 * s.flags.z.toNat +
              16 * s.flags.ac.toNat + 4 * s.flags.p.toNat + s.flags.cy.toNat))) s t ∧
      t.sp = s.sp - 2 ∧ t.pc = s.pc ∧ UnchangedExcept [.sp, .mem, .pc] s t

/-- POP B, D, H and PSW: the pair from SP and SP + 1, SP more by 2, flags only by POP PSW. Formalises R243, R244. -/
def Obligations.PopLoadsPair : Prop :=
  ∀ s : State,
    let lo := memRead s s.sp
    let hi := memRead s (s.sp + 1)
    (encode .popB = [0xC1] ∧ ∃ t, exec .popB s = .next t ∧ t.c = lo ∧ t.b = hi ∧ t.sp = s.sp + 2 ∧ t.pc = s.pc ∧
      UnchangedExcept [.reg .b, .reg .c, .sp, .pc] s t) ∧
    (encode .popD = [0xD1] ∧ ∃ t, exec .popD s = .next t ∧ t.e = lo ∧ t.d = hi ∧ t.sp = s.sp + 2 ∧ t.pc = s.pc ∧
      UnchangedExcept [.reg .d, .reg .e, .sp, .pc] s t) ∧
    (encode .popH = [0xE1] ∧ ∃ t, exec .popH s = .next t ∧ t.l = lo ∧ t.h = hi ∧ t.sp = s.sp + 2 ∧ t.pc = s.pc ∧
      UnchangedExcept [.reg .h, .reg .l, .sp, .pc] s t) ∧
    (encode .popPsw = [0xF1] ∧ ∃ t, exec .popPsw s = .next t ∧ t.a = hi ∧
      t.flags.s = lo.toNat.testBit 7 ∧ t.flags.z = lo.toNat.testBit 6 ∧ t.flags.ac = lo.toNat.testBit 4 ∧
      t.flags.p = lo.toNat.testBit 2 ∧ t.flags.cy = lo.toNat.testBit 0 ∧ t.sp = s.sp + 2 ∧ t.pc = s.pc ∧
      UnchangedExcept (.reg .a :: .sp :: .pc :: flagParts) s t)

/-- PUSH PSW then POP PSW gives back A, the flags and SP; POP then PUSH stores the byte with bits 5, 3, 1 as 0, 0, 1.
Derived from 44_stack_io_control.md R244, 44_stack_io_control.md R242. -/
def Obligations.PopThenPushPsw : Prop :=
  ∀ s t u : State,
    (exec .pushPsw s = .next t → exec .popPsw t = .next u → u.a = s.a ∧ u.flags = s.flags ∧ u.sp = s.sp) ∧
    (exec .popPsw s = .next t → exec .pushPsw t = .next u →
      memRead u s.sp = (memRead s s.sp &&& 0b11010111) ||| 0b00000010)

/-- XTHL exchanges HL with the word at SP; SPHL loads SP from HL. Formalises R245, R246. -/
def Obligations.XthlAndSphl : Prop :=
  ∀ s : State,
    (encode .xthl = [0xE3] ∧ ∃ t, exec .xthl s = .next t ∧ t.l = memRead s s.sp ∧ t.h = memRead s (s.sp + 1) ∧
      memRead t s.sp = s.l ∧ memRead t (s.sp + 1) = s.h ∧
      (∀ addr : Word, s.index addr ≠ s.index s.sp → s.index addr ≠ s.index (s.sp + 1) → memRead t addr = memRead s addr) ∧
      t.pc = s.pc ∧ UnchangedExcept [.reg .h, .reg .l, .mem, .pc] s t) ∧
    (encode .sphl = [0xF9] ∧ ∃ t, exec .sphl s = .next t ∧ t.sp.toNat = s.h.toNat * 256 + s.l.toNat ∧ t.pc = s.pc ∧
      UnchangedExcept [.sp, .pc] s t)

/-- IN p8: A is the free value IO_ENV answers (log entry 2), which the history records; nothing else changes. Derived from
44_stack_io_control.md R247, 20_memory.md R69. -/
def Obligations.InputFromPort : Prop :=
  ∀ (p8 : Byte) (s : State),
    encode (.inPort p8) = [0xDB, p8] ∧
    ∃ t, exec (.inPort p8) s = .next t ∧ t.a = Config.ioRead s.io.length p8 ∧
      t.io = s.io ++ [.input p8 t.a] ∧ t.pc = s.pc + 1 ∧ UnchangedExcept [.reg .a, .io, .pc] s t

/-- OUT p8: the pair of port and A is appended to the output history and no state of the block changes but PC. Formalises
R248. -/
def Obligations.OutputToPort : Prop :=
  ∀ (p8 : Byte) (s : State),
    encode (.outPort p8) = [0xD3, p8] ∧
    ∃ t, exec (.outPort p8) s = .next t ∧ t.io = s.io ++ [.output p8 s.a] ∧ t.pc = s.pc + 1 ∧
      UnchangedExcept [.io, .pc] s t

/-- EI sets INTE at once, DI clears it, NOP does nothing but advance PC. Formalises R249, R250, R252. -/
def Obligations.InterruptEnableAndNop : Prop :=
  ∀ s : State,
    (encode .ei = [0xFB] ∧ ∃ t, exec .ei s = .next t ∧ t.inte = true ∧ t.pc = s.pc ∧ UnchangedExcept [.inte, .pc] s t) ∧
    (encode .di = [0xF3] ∧ ∃ t, exec .di s = .next t ∧ t.inte = false ∧ t.pc = s.pc ∧ UnchangedExcept [.inte, .pc] s t) ∧
    (encode .nop = [0x00] ∧ ∃ t, exec .nop s = .next t ∧ t.pc = s.pc ∧ UnchangedExcept [.pc] s t)

/-- HLT, the slot of MOV M,M: run is halted_normal, PC is the address after it, and no step leads out of that state.
Formalises R251. -/
def Obligations.HltEndsTheRun : Prop :=
  Instr.ofMov .m .m = .hlt ∧
  ∀ s : State, encode .hlt = [0x76] ∧
    ∃ t, exec .hlt s = .next t ∧ t.run = .haltedNormal ∧ t.pc = s.pc ∧ UnchangedExcept [.run, .pc] s t ∧
      ∀ u, step t = .next u → u = t

/-- The twelve undocumented bytes as executed: each takes the unimplemented-opcode fault with its own byte and address.
That such a term executes, with the record holding PC - 1, is the model's own (log entry 7, DEDUCED; in a step the
gate faults first), and that its encoding is one byte is the choice of the model (log entry 4); the fault recorded is
that of R105 and R273. Derived from 30_encoding.md R105, 60_exceptions.md R273. -/
def Obligations.UndocumentedTakeTheFault : Prop :=
  ∀ (i : Instr) (s : State), i ∈ Instr.undocumented →
    ∃ op : Byte, encode i = [op] ∧
      op ∈ ([0x08, 0x10, 0x18, 0x20, 0x28, 0x30, 0x38, 0xCB, 0xD9, 0xDD, 0xED, 0xFD] : List Byte) ∧
      ∃ t, exec i s = .next t ∧ t.fault = some ⟨op, s.pc - 1⟩ ∧ t.run = .haltedFault ∧ t.pc = s.pc ∧
        UnchangedExcept [.fault, .run] s t
end

