-- ==== Sys2Proof/Laws/Exec.lean ====
section
/-! SUPPORT. Which shared operation exec runs for the instructions of a pattern (spec/30_encoding.md R100 to R103): one
lemma per pattern, and a case split by pattern, so that later proofs meet no list of constructors. -/

namespace Sys2Proof.Machine

/-- MOV (R101): every pair of operands but M, M, whose slot is HLT. -/
theorem exec_ofMov (dst src : Operand) (s : State) (h : ¬(dst = .m ∧ src = .m)) :
    exec (Instr.ofMov dst src) s = .next (move dst src s) := by
  cases dst with
  | reg r =>
    cases src with
    | reg q => cases r <;> cases q <;> rfl
    | m => cases r <;> rfl
  | m =>
    cases src with
    | reg q => cases q <;> rfl
    | m => exact absurd ⟨rfl, rfl⟩ h

theorem exec_ofMov_m_m (s : State) : exec (Instr.ofMov .m .m) s = .next (halt s) := rfl

theorem exec_ofAlu_add (o : Operand) (s : State) :
    exec (Instr.ofAlu .add o) s = .next (addTo (readOperand o s) 0 s) := by
  cases o with
  | reg r => cases r <;> rfl
  | m => rfl

theorem exec_ofAluImm_add (d8 : Byte) (s : State) :
    exec (Instr.ofAluImm .add d8) s = .next (addTo d8 1 s) := by
  rfl

theorem exec_ofAlu_adc (o : Operand) (s : State) :
    exec (Instr.ofAlu .adc o) s = .next (addWithCarry (readOperand o s) 0 s) := by
  cases o with
  | reg r => cases r <;> rfl
  | m => rfl

theorem exec_ofAluImm_adc (d8 : Byte) (s : State) :
    exec (Instr.ofAluImm .adc d8) s = .next (addWithCarry d8 1 s) := by
  rfl

theorem exec_ofAlu_sub (o : Operand) (s : State) :
    exec (Instr.ofAlu .sub o) s = .next (subtractFrom (readOperand o s) 0 s) := by
  cases o with
  | reg r => cases r <;> rfl
  | m => rfl

theorem exec_ofAluImm_sub (d8 : Byte) (s : State) :
    exec (Instr.ofAluImm .sub d8) s = .next (subtractFrom d8 1 s) := by
  rfl

theorem exec_ofAlu_sbb (o : Operand) (s : State) :
    exec (Instr.ofAlu .sbb o) s = .next (subtractWithBorrow (readOperand o s) 0 s) := by
  cases o with
  | reg r => cases r <;> rfl
  | m => rfl

theorem exec_ofAluImm_sbb (d8 : Byte) (s : State) :
    exec (Instr.ofAluImm .sbb d8) s = .next (subtractWithBorrow d8 1 s) := by
  rfl

theorem exec_ofAlu_ana (o : Operand) (s : State) :
    exec (Instr.ofAlu .ana o) s = .next (andWith (readOperand o s) 0 s) := by
  cases o with
  | reg r => cases r <;> rfl
  | m => rfl

theorem exec_ofAluImm_ana (d8 : Byte) (s : State) :
    exec (Instr.ofAluImm .ana d8) s = .next (andWith d8 1 s) := by
  rfl

theorem exec_ofAlu_xra (o : Operand) (s : State) :
    exec (Instr.ofAlu .xra o) s = .next (xorWith (readOperand o s) 0 s) := by
  cases o with
  | reg r => cases r <;> rfl
  | m => rfl

theorem exec_ofAluImm_xra (d8 : Byte) (s : State) :
    exec (Instr.ofAluImm .xra d8) s = .next (xorWith d8 1 s) := by
  rfl

theorem exec_ofAlu_ora (o : Operand) (s : State) :
    exec (Instr.ofAlu .ora o) s = .next (orWith (readOperand o s) 0 s) := by
  cases o with
  | reg r => cases r <;> rfl
  | m => rfl

theorem exec_ofAluImm_ora (d8 : Byte) (s : State) :
    exec (Instr.ofAluImm .ora d8) s = .next (orWith d8 1 s) := by
  rfl

theorem exec_ofAlu_cmp (o : Operand) (s : State) :
    exec (Instr.ofAlu .cmp o) s = .next (compareWith (readOperand o s) 0 s) := by
  cases o with
  | reg r => cases r <;> rfl
  | m => rfl

theorem exec_ofAluImm_cmp (d8 : Byte) (s : State) :
    exec (Instr.ofAluImm .cmp d8) s = .next (compareWith d8 1 s) := by
  rfl

theorem exec_ofInr (o : Operand) (s : State) :
    exec (Instr.ofInr o) s = .next (increment o s) := by
  cases o with
  | reg r => cases r <;> rfl
  | m => rfl

theorem exec_ofDcr (o : Operand) (s : State) :
    exec (Instr.ofDcr o) s = .next (decrement o s) := by
  cases o with
  | reg r => cases r <;> rfl
  | m => rfl

theorem exec_ofMvi (o : Operand) (d8 : Byte) (s : State) :
    exec (Instr.ofMvi o d8) s = .next (moveImmediate o d8 s) := by
  cases o with
  | reg r => cases r <;> rfl
  | m => rfl

theorem exec_ofLxi (k : RegPair) (d16 : Word) (s : State) :
    exec (Instr.ofLxi k d16) s = .next (loadPairImmediate k d16 s) := by
  cases k <;> rfl

theorem exec_ofInx (k : RegPair) (s : State) :
    exec (Instr.ofInx k) s = .next (incrementPair k s) := by
  cases k <;> rfl

theorem exec_ofDcx (k : RegPair) (s : State) :
    exec (Instr.ofDcx k) s = .next (decrementPair k s) := by
  cases k <;> rfl

theorem exec_ofDad (k : RegPair) (s : State) :
    exec (Instr.ofDad k) s = .next (addPairToHL k s) := by
  cases k <;> rfl

theorem exec_ofStax (k : IndexPair) (s : State) :
    exec (Instr.ofStax k) s = .next (storeAccIndirect k s) := by
  cases k <;> rfl

theorem exec_ofLdax (k : IndexPair) (s : State) :
    exec (Instr.ofLdax k) s = .next (loadAccIndirect k s) := by
  cases k <;> rfl

theorem exec_ofPush (k : StackPair) (s : State) :
    exec (Instr.ofPush k) s = .next (push k s) := by
  cases k <;> rfl

theorem exec_ofPop (k : StackPair) (s : State) :
    exec (Instr.ofPop k) s = .next (pop k s) := by
  cases k <;> rfl

theorem exec_ofJcc (k : Cond) (a16 : Word) (s : State) :
    exec (Instr.ofJcc k a16) s = .next (jumpIf k a16 s) := by
  cases k <;> rfl

theorem exec_ofCcc (k : Cond) (a16 : Word) (s : State) :
    exec (Instr.ofCcc k a16) s = .next (callIf k a16 s) := by
  cases k <;> rfl

theorem exec_ofRcc (k : Cond) (s : State) :
    exec (Instr.ofRcc k) s = .next (returnIf k s) := by
  cases k <;> rfl

theorem exec_ofRst (n : Fin 8) (s : State) : exec (Instr.ofRst n) s = .next (restart n.val s) := by
  match n with
  | 0 | 1 | 2 | 3 | 4 | 5 | 6 | 7 => rfl

/-- A statement about every instruction follows from one case per pattern of spec/30_encoding.md R100 to R103: the way
to prove something of all 256 constructors in about 50 cases. -/
theorem instr_byPattern {motive : Instr → Prop}
    (ofMov : ∀ (dst src : Operand), ¬(dst = .m ∧ src = .m) → motive (.ofMov dst src))
    (ofAlu : ∀ (op : AluOp) (o : Operand), motive (.ofAlu op o))
    (ofAluImm : ∀ (op : AluOp) (d8 : Byte), motive (.ofAluImm op d8)) (ofInr : ∀ (o : Operand), motive (.ofInr o))
    (ofDcr : ∀ (o : Operand), motive (.ofDcr o)) (ofMvi : ∀ (o : Operand) (d8 : Byte), motive (.ofMvi o d8))
    (ofLxi : ∀ (k : RegPair) (d16 : Word), motive (.ofLxi k d16)) (ofInx : ∀ (k : RegPair), motive (.ofInx k))
    (ofDcx : ∀ (k : RegPair), motive (.ofDcx k)) (ofDad : ∀ (k : RegPair), motive (.ofDad k))
    (ofStax : ∀ (k : IndexPair), motive (.ofStax k)) (ofLdax : ∀ (k : IndexPair), motive (.ofLdax k))
    (ofPush : ∀ (k : StackPair), motive (.ofPush k)) (ofPop : ∀ (k : StackPair), motive (.ofPop k))
    (ofJcc : ∀ (k : Cond) (a16 : Word), motive (.ofJcc k a16))
    (ofCcc : ∀ (k : Cond) (a16 : Word), motive (.ofCcc k a16)) (ofRcc : ∀ (k : Cond), motive (.ofRcc k))
    (ofRst : ∀ (n : Fin 8), motive (.ofRst n)) (shld : ∀ a16 : Word, motive (.shld a16))
    (lhld : ∀ a16 : Word, motive (.lhld a16)) (sta : ∀ a16 : Word, motive (.sta a16))
    (lda : ∀ a16 : Word, motive (.lda a16)) (jmp : ∀ a16 : Word, motive (.jmp a16))
    (call : ∀ a16 : Word, motive (.call a16)) (outPort : ∀ p8 : Byte, motive (.outPort p8))
    (inPort : ∀ p8 : Byte, motive (.inPort p8)) (nop : motive (.nop)) (rlc : motive (.rlc)) (rrc : motive (.rrc))
    (ral : motive (.ral)) (rar : motive (.rar)) (daa : motive (.daa)) (cma : motive (.cma)) (stc : motive (.stc))
    (cmc : motive (.cmc)) (hlt : motive (.hlt)) (ret : motive (.ret)) (xthl : motive (.xthl)) (pchl : motive (.pchl))
    (xchg : motive (.xchg)) (di : motive (.di)) (sphl : motive (.sphl)) (ei : motive (.ei))
    (undocumented : ∀ i ∈ Instr.undocumented, motive i) :
    ∀ i : Instr, motive i := by
  intro i
  cases i with
  | lxiB d16 => exact ofLxi .bc d16
  | lxiD d16 => exact ofLxi .de d16
  | lxiH d16 => exact ofLxi .hl d16
  | shld a16 => exact shld a16
  | lhld a16 => exact lhld a16
  | lxiSp d16 => exact ofLxi .sp d16
  | sta a16 => exact sta a16
  | lda a16 => exact lda a16
  | jnz a16 => exact ofJcc .nz a16
  | jmp a16 => exact jmp a16
  | cnz a16 => exact ofCcc .nz a16
  | jz a16 => exact ofJcc .z a16
  | cz a16 => exact ofCcc .z a16
  | call a16 => exact call a16
  | jnc a16 => exact ofJcc .nc a16
  | cnc a16 => exact ofCcc .nc a16
  | jc a16 => exact ofJcc .c a16
  | cc a16 => exact ofCcc .c a16
  | jpo a16 => exact ofJcc .po a16
  | cpo a16 => exact ofCcc .po a16
  | jpe a16 => exact ofJcc .pe a16
  | cpe a16 => exact ofCcc .pe a16
  | jp a16 => exact ofJcc .p a16
  | cp a16 => exact ofCcc .p a16
  | jm a16 => exact ofJcc .m a16
  | cm a16 => exact ofCcc .m a16
  | mviB d8 => exact ofMvi (.reg .b) d8
  | mviC d8 => exact ofMvi (.reg .c) d8
  | mviD d8 => exact ofMvi (.reg .d) d8
  | mviE d8 => exact ofMvi (.reg .e) d8
  | mviH d8 => exact ofMvi (.reg .h) d8
  | mviL d8 => exact ofMvi (.reg .l) d8
  | mviM d8 => exact ofMvi .m d8
  | mviA d8 => exact ofMvi (.reg .a) d8
  | adi d8 => exact ofAluImm .add d8
  | aci d8 => exact ofAluImm .adc d8
  | outPort p8 => exact outPort p8
  | sui d8 => exact ofAluImm .sub d8
  | inPort p8 => exact inPort p8
  | sbi d8 => exact ofAluImm .sbb d8
  | ani d8 => exact ofAluImm .ana d8
  | xri d8 => exact ofAluImm .xra d8
  | ori d8 => exact ofAluImm .ora d8
  | cpi d8 => exact ofAluImm .cmp d8
  | nop => exact nop
  | staxB => exact ofStax .bc
  | inxB => exact ofInx .bc
  | inrB => exact ofInr (.reg .b)
  | dcrB => exact ofDcr (.reg .b)
  | rlc => exact rlc
  | dadB => exact ofDad .bc
  | ldaxB => exact ofLdax .bc
  | dcxB => exact ofDcx .bc
  | inrC => exact ofInr (.reg .c)
  | dcrC => exact ofDcr (.reg .c)
  | rrc => exact rrc
  | staxD => exact ofStax .de
  | inxD => exact ofInx .de
  | inrD => exact ofInr (.reg .d)
  | dcrD => exact ofDcr (.reg .d)
  | ral => exact ral
  | dadD => exact ofDad .de
  | ldaxD => exact ofLdax .de
  | dcxD => exact ofDcx .de
  | inrE => exact ofInr (.reg .e)
  | dcrE => exact ofDcr (.reg .e)
  | rar => exact rar
  | inxH => exact ofInx .hl
  | inrH => exact ofInr (.reg .h)
  | dcrH => exact ofDcr (.reg .h)
  | daa => exact daa
  | dadH => exact ofDad .hl
  | dcxH => exact ofDcx .hl
  | inrL => exact ofInr (.reg .l)
  | dcrL => exact ofDcr (.reg .l)
  | cma => exact cma
  | inxSp => exact ofInx .sp
  | inrM => exact ofInr .m
  | dcrM => exact ofDcr .m
  | stc => exact stc
  | dadSp => exact ofDad .sp
  | dcxSp => exact ofDcx .sp
  | inrA => exact ofInr (.reg .a)
  | dcrA => exact ofDcr (.reg .a)
  | cmc => exact cmc
  | movBB => exact ofMov (.reg .b) (.reg .b) (by decide)
  | movBC => exact ofMov (.reg .b) (.reg .c) (by decide)
  | movBD => exact ofMov (.reg .b) (.reg .d) (by decide)
  | movBE => exact ofMov (.reg .b) (.reg .e) (by decide)
  | movBH => exact ofMov (.reg .b) (.reg .h) (by decide)
  | movBL => exact ofMov (.reg .b) (.reg .l) (by decide)
  | movBM => exact ofMov (.reg .b) .m (by decide)
  | movBA => exact ofMov (.reg .b) (.reg .a) (by decide)
  | movCB => exact ofMov (.reg .c) (.reg .b) (by decide)
  | movCC => exact ofMov (.reg .c) (.reg .c) (by decide)
  | movCD => exact ofMov (.reg .c) (.reg .d) (by decide)
  | movCE => exact ofMov (.reg .c) (.reg .e) (by decide)
  | movCH => exact ofMov (.reg .c) (.reg .h) (by decide)
  | movCL => exact ofMov (.reg .c) (.reg .l) (by decide)
  | movCM => exact ofMov (.reg .c) .m (by decide)
  | movCA => exact ofMov (.reg .c) (.reg .a) (by decide)
  | movDB => exact ofMov (.reg .d) (.reg .b) (by decide)
  | movDC => exact ofMov (.reg .d) (.reg .c) (by decide)
  | movDD => exact ofMov (.reg .d) (.reg .d) (by decide)
  | movDE => exact ofMov (.reg .d) (.reg .e) (by decide)
  | movDH => exact ofMov (.reg .d) (.reg .h) (by decide)
  | movDL => exact ofMov (.reg .d) (.reg .l) (by decide)
  | movDM => exact ofMov (.reg .d) .m (by decide)
  | movDA => exact ofMov (.reg .d) (.reg .a) (by decide)
  | movEB => exact ofMov (.reg .e) (.reg .b) (by decide)
  | movEC => exact ofMov (.reg .e) (.reg .c) (by decide)
  | movED => exact ofMov (.reg .e) (.reg .d) (by decide)
  | movEE => exact ofMov (.reg .e) (.reg .e) (by decide)
  | movEH => exact ofMov (.reg .e) (.reg .h) (by decide)
  | movEL => exact ofMov (.reg .e) (.reg .l) (by decide)
  | movEM => exact ofMov (.reg .e) .m (by decide)
  | movEA => exact ofMov (.reg .e) (.reg .a) (by decide)
  | movHB => exact ofMov (.reg .h) (.reg .b) (by decide)
  | movHC => exact ofMov (.reg .h) (.reg .c) (by decide)
  | movHD => exact ofMov (.reg .h) (.reg .d) (by decide)
  | movHE => exact ofMov (.reg .h) (.reg .e) (by decide)
  | movHH => exact ofMov (.reg .h) (.reg .h) (by decide)
  | movHL => exact ofMov (.reg .h) (.reg .l) (by decide)
  | movHM => exact ofMov (.reg .h) .m (by decide)
  | movHA => exact ofMov (.reg .h) (.reg .a) (by decide)
  | movLB => exact ofMov (.reg .l) (.reg .b) (by decide)
  | movLC => exact ofMov (.reg .l) (.reg .c) (by decide)
  | movLD => exact ofMov (.reg .l) (.reg .d) (by decide)
  | movLE => exact ofMov (.reg .l) (.reg .e) (by decide)
  | movLH => exact ofMov (.reg .l) (.reg .h) (by decide)
  | movLL => exact ofMov (.reg .l) (.reg .l) (by decide)
  | movLM => exact ofMov (.reg .l) .m (by decide)
  | movLA => exact ofMov (.reg .l) (.reg .a) (by decide)
  | movMB => exact ofMov .m (.reg .b) (by decide)
  | movMC => exact ofMov .m (.reg .c) (by decide)
  | movMD => exact ofMov .m (.reg .d) (by decide)
  | movME => exact ofMov .m (.reg .e) (by decide)
  | movMH => exact ofMov .m (.reg .h) (by decide)
  | movML => exact ofMov .m (.reg .l) (by decide)
  | hlt => exact hlt
  | movMA => exact ofMov .m (.reg .a) (by decide)
  | movAB => exact ofMov (.reg .a) (.reg .b) (by decide)
  | movAC => exact ofMov (.reg .a) (.reg .c) (by decide)
  | movAD => exact ofMov (.reg .a) (.reg .d) (by decide)
  | movAE => exact ofMov (.reg .a) (.reg .e) (by decide)
  | movAH => exact ofMov (.reg .a) (.reg .h) (by decide)
  | movAL => exact ofMov (.reg .a) (.reg .l) (by decide)
  | movAM => exact ofMov (.reg .a) .m (by decide)
  | movAA => exact ofMov (.reg .a) (.reg .a) (by decide)
  | addB => exact ofAlu .add (.reg .b)
  | addC => exact ofAlu .add (.reg .c)
  | addD => exact ofAlu .add (.reg .d)
  | addE => exact ofAlu .add (.reg .e)
  | addH => exact ofAlu .add (.reg .h)
  | addL => exact ofAlu .add (.reg .l)
  | addM => exact ofAlu .add .m
  | addA => exact ofAlu .add (.reg .a)
  | adcB => exact ofAlu .adc (.reg .b)
  | adcC => exact ofAlu .adc (.reg .c)
  | adcD => exact ofAlu .adc (.reg .d)
  | adcE => exact ofAlu .adc (.reg .e)
  | adcH => exact ofAlu .adc (.reg .h)
  | adcL => exact ofAlu .adc (.reg .l)
  | adcM => exact ofAlu .adc .m
  | adcA => exact ofAlu .adc (.reg .a)
  | subB => exact ofAlu .sub (.reg .b)
  | subC => exact ofAlu .sub (.reg .c)
  | subD => exact ofAlu .sub (.reg .d)
  | subE => exact ofAlu .sub (.reg .e)
  | subH => exact ofAlu .sub (.reg .h)
  | subL => exact ofAlu .sub (.reg .l)
  | subM => exact ofAlu .sub .m
  | subA => exact ofAlu .sub (.reg .a)
  | sbbB => exact ofAlu .sbb (.reg .b)
  | sbbC => exact ofAlu .sbb (.reg .c)
  | sbbD => exact ofAlu .sbb (.reg .d)
  | sbbE => exact ofAlu .sbb (.reg .e)
  | sbbH => exact ofAlu .sbb (.reg .h)
  | sbbL => exact ofAlu .sbb (.reg .l)
  | sbbM => exact ofAlu .sbb .m
  | sbbA => exact ofAlu .sbb (.reg .a)
  | anaB => exact ofAlu .ana (.reg .b)
  | anaC => exact ofAlu .ana (.reg .c)
  | anaD => exact ofAlu .ana (.reg .d)
  | anaE => exact ofAlu .ana (.reg .e)
  | anaH => exact ofAlu .ana (.reg .h)
  | anaL => exact ofAlu .ana (.reg .l)
  | anaM => exact ofAlu .ana .m
  | anaA => exact ofAlu .ana (.reg .a)
  | xraB => exact ofAlu .xra (.reg .b)
  | xraC => exact ofAlu .xra (.reg .c)
  | xraD => exact ofAlu .xra (.reg .d)
  | xraE => exact ofAlu .xra (.reg .e)
  | xraH => exact ofAlu .xra (.reg .h)
  | xraL => exact ofAlu .xra (.reg .l)
  | xraM => exact ofAlu .xra .m
  | xraA => exact ofAlu .xra (.reg .a)
  | oraB => exact ofAlu .ora (.reg .b)
  | oraC => exact ofAlu .ora (.reg .c)
  | oraD => exact ofAlu .ora (.reg .d)
  | oraE => exact ofAlu .ora (.reg .e)
  | oraH => exact ofAlu .ora (.reg .h)
  | oraL => exact ofAlu .ora (.reg .l)
  | oraM => exact ofAlu .ora .m
  | oraA => exact ofAlu .ora (.reg .a)
  | cmpB => exact ofAlu .cmp (.reg .b)
  | cmpC => exact ofAlu .cmp (.reg .c)
  | cmpD => exact ofAlu .cmp (.reg .d)
  | cmpE => exact ofAlu .cmp (.reg .e)
  | cmpH => exact ofAlu .cmp (.reg .h)
  | cmpL => exact ofAlu .cmp (.reg .l)
  | cmpM => exact ofAlu .cmp .m
  | cmpA => exact ofAlu .cmp (.reg .a)
  | rnz => exact ofRcc .nz
  | popB => exact ofPop .bc
  | pushB => exact ofPush .bc
  | rst0 => exact ofRst 0
  | rz => exact ofRcc .z
  | ret => exact ret
  | rst1 => exact ofRst 1
  | rnc => exact ofRcc .nc
  | popD => exact ofPop .de
  | pushD => exact ofPush .de
  | rst2 => exact ofRst 2
  | rc => exact ofRcc .c
  | rst3 => exact ofRst 3
  | rpo => exact ofRcc .po
  | popH => exact ofPop .hl
  | xthl => exact xthl
  | pushH => exact ofPush .hl
  | rst4 => exact ofRst 4
  | rpe => exact ofRcc .pe
  | pchl => exact pchl
  | xchg => exact xchg
  | rst5 => exact ofRst 5
  | rp => exact ofRcc .p
  | popPsw => exact ofPop .psw
  | di => exact di
  | pushPsw => exact ofPush .psw
  | rst6 => exact ofRst 6
  | rm => exact ofRcc .m
  | sphl => exact sphl
  | ei => exact ei
  | rst7 => exact ofRst 7
  | undocumented08 => exact undocumented _ (by decide)
  | undocumented10 => exact undocumented _ (by decide)
  | undocumented18 => exact undocumented _ (by decide)
  | undocumented20 => exact undocumented _ (by decide)
  | undocumented28 => exact undocumented _ (by decide)
  | undocumented30 => exact undocumented _ (by decide)
  | undocumented38 => exact undocumented _ (by decide)
  | undocumentedCB => exact undocumented _ (by decide)
  | undocumentedD9 => exact undocumented _ (by decide)
  | undocumentedDD => exact undocumented _ (by decide)
  | undocumentedED => exact undocumented _ (by decide)
  | undocumentedFD => exact undocumented _ (by decide)

end Sys2Proof.Machine
end

