-- ==== Sys2Proof/Laws/Flags.lean ====
section
/-! SUPPORT. What the flag functions compute, once each, in the terms of Safety.lean. -/

namespace Sys2Proof.Machine

/-- `parity` says whether the number of one bits is even (spec/41_arithmetic.md R150). -/
theorem parity_eq (v : Byte) :
    parity v = true ↔ ((List.range 8).countP fun k => v.getLsbD k) % 2 = 0 := by
  have h : (List.range 8).countP (fun k => v.getLsbD k) =
      (v.getLsbD 7).toNat + (v.getLsbD 6).toNat + (v.getLsbD 5).toNat + (v.getLsbD 4).toNat + (v.getLsbD 3).toNat +
        (v.getLsbD 2).toNat + (v.getLsbD 1).toNat + (v.getLsbD 0).toNat := by
    rw [show List.range 8 = [0, 1, 2, 3, 4, 5, 6, 7] from rfl]
    generalize v.getLsbD = f
    simp only [List.countP_cons, List.countP_nil]
    cases f 0 <;> cases f 1 <;> cases f 2 <;> cases f 3 <;> cases f 4 <;> cases f 5 <;> cases f 6 <;> cases f 7 <;> rfl
  rw [h]
  simp [parity]

/-- Bit 7 of a byte is set exactly when it is at least 128. -/
theorem getLsbD_seven (v : Byte) : v.getLsbD 7 = true ↔ 128 ≤ v.toNat := by
  have := v.isLt
  rw [BitVec.getLsbD, Nat.testBit_eq_decide_div_mod_eq]
  simp only [decide_eq_true_eq]
  omega

/-- `zsp` gives the three flags of its result (spec/41_arithmetic.md R150). -/
theorem flagsOfResult_zsp (res : Byte) (cy ac : Bool) : FlagsOfResult (zsp res cy ac) res := by
  refine ⟨?_, getLsbD_seven res, parity_eq res⟩
  simp only [zsp, beq_iff_eq]
  exact ⟨fun h => by simp [h], fun h => BitVec.eq_of_toNat_eq (by simpa using h)⟩

/-- FlagsOfResult looks at Z, S and P only. -/
theorem flagsOfResult_with (f : Flags) (res : Byte) (cy ac : Bool) :
    FlagsOfResult { f with cy := cy, ac := ac } res ↔ FlagsOfResult f res := Iff.rfl

/-- `add8` is the sum (spec/41_arithmetic.md R151). -/
theorem isSum_add8 (a b : Byte) (cin : Bool) : IsSum a b cin (add8 a b cin).res (add8 a b cin).flags := by
  refine ⟨?_, flagsOfResult_zsp _ _ _, ?_, ?_⟩
  · simp [add8]
  · simp [add8, zsp]
  · simp [add8, zsp]

/-- `sub8` is the difference (spec/41_arithmetic.md R152). -/
theorem isDifference_sub8 (a b : Byte) (bin : Bool) :
    IsDifference a b bin (sub8 a b bin).res (sub8 a b bin).flags := by
  have ha := a.isLt
  have hb := b.isLt
  refine ⟨?_, flagsOfResult_zsp _ _ _, ?_, ?_⟩
  · simp only [sub8, BitVec.toNat_ofNat]
    cases bin <;> simp only [Bool.toNat_false, Bool.toNat_true] <;> omega
  · simp only [sub8, zsp, Bool.not_eq_true', decide_eq_false_iff_not]
    cases bin <;> simp only [Bool.toNat_false, Bool.toNat_true] <;> omega
  · simp only [sub8, zsp, decide_eq_true_eq]
    cases bin <;> simp only [Bool.toNat_false, Bool.toNat_true] <;> omega

/-- INR's result and flags are those of adding 1, with CY kept (spec/41_arithmetic.md R161). -/
theorem inc8_eq (f : Flags) (v : Byte) :
    (inc8 f v).res = v + 1 ∧ FlagsOfResult (inc8 f v).flags (v + 1) ∧ (inc8 f v).flags.cy = f.cy ∧
      ((inc8 f v).flags.ac = true ↔ v.toNat % 16 = 15) :=
  ⟨rfl, flagsOfResult_zsp _ _ _, rfl, by simp [inc8, zsp]⟩

/-- DCR's result and flags, with CY kept (spec/41_arithmetic.md R163). -/
theorem dec8_eq (f : Flags) (v : Byte) :
    (dec8 f v).res = v - 1 ∧ FlagsOfResult (dec8 f v).flags (v - 1) ∧ (dec8 f v).flags.cy = f.cy ∧
      ((dec8 f v).flags.ac = true ↔ v.toNat % 16 ≠ 0) :=
  ⟨rfl, flagsOfResult_zsp _ _ _, rfl, by simp [dec8, zsp]⟩

/-- The flag byte holds each flag in its place (spec/10_state.md R30). -/
theorem flagsOfByte_flagByte (f : Flags) : flagsOfByte (flagByte f) = f := by
  rcases f with ⟨z, s, p, cy, ac⟩
  cases z <;> cases s <;> cases p <;> cases cy <;> cases ac <;> decide

end Sys2Proof.Machine
end

