-- ==== Sys2Proof/Laws/State.lean ====
section
/-! SUPPORT. The small lemmas of the state: for each named update, one lemma per field, and the reads (registers,
pairs, index, memory byte) that it leaves alone. Later proofs unfold no record update. -/

namespace Sys2Proof.Machine

/-! ## goTo -/

@[simp] theorem goTo_a (s : State) (target : Word) : (goTo target s).a = s.a := rfl
@[simp] theorem goTo_b (s : State) (target : Word) : (goTo target s).b = s.b := rfl
@[simp] theorem goTo_c (s : State) (target : Word) : (goTo target s).c = s.c := rfl
@[simp] theorem goTo_d (s : State) (target : Word) : (goTo target s).d = s.d := rfl
@[simp] theorem goTo_e (s : State) (target : Word) : (goTo target s).e = s.e := rfl
@[simp] theorem goTo_h (s : State) (target : Word) : (goTo target s).h = s.h := rfl
@[simp] theorem goTo_l (s : State) (target : Word) : (goTo target s).l = s.l := rfl
@[simp] theorem goTo_sp (s : State) (target : Word) : (goTo target s).sp = s.sp := rfl
@[simp] theorem goTo_pc (s : State) (target : Word) : (goTo target s).pc = target := rfl
@[simp] theorem goTo_flags (s : State) (target : Word) : (goTo target s).flags = s.flags := rfl
@[simp] theorem goTo_inte (s : State) (target : Word) : (goTo target s).inte = s.inte := rfl
@[simp] theorem goTo_mem (s : State) (target : Word) : (goTo target s).mem = s.mem := rfl
@[simp] theorem goTo_run (s : State) (target : Word) : (goTo target s).run = s.run := rfl
@[simp] theorem goTo_fault (s : State) (target : Word) : (goTo target s).fault = s.fault := rfl
@[simp] theorem goTo_io (s : State) (target : Word) : (goTo target s).io = s.io := rfl
@[simp] theorem goTo_cfg (s : State) (target : Word) : (goTo target s).cfg = s.cfg := rfl
@[simp] theorem goTo_reg (s : State) (target : Word) (q : Reg) :
    (goTo target s).reg q = s.reg q := by cases q <;> rfl
@[simp] theorem goTo_bc (s : State) (target : Word) : (goTo target s).bc = s.bc := rfl
@[simp] theorem goTo_de (s : State) (target : Word) : (goTo target s).de = s.de := rfl
@[simp] theorem goTo_hl (s : State) (target : Word) : (goTo target s).hl = s.hl := rfl
@[simp] theorem goTo_index (s : State) (target : Word) (at_ : Word) : (goTo target s).index at_ = s.index at_ := rfl
@[simp] theorem goTo_memRead (s : State) (target : Word) (at_ : Word) :
    memRead (goTo target s) at_ = memRead s at_ := rfl
@[simp] theorem goTo_memReadWord (s : State) (target : Word) (at_ : Word) :
    memReadWord (goTo target s) at_ = memReadWord s at_ := rfl

/-! ## advance -/

@[simp] theorem advance_a (s : State) (k : Nat) : (advance k s).a = s.a := rfl
@[simp] theorem advance_b (s : State) (k : Nat) : (advance k s).b = s.b := rfl
@[simp] theorem advance_c (s : State) (k : Nat) : (advance k s).c = s.c := rfl
@[simp] theorem advance_d (s : State) (k : Nat) : (advance k s).d = s.d := rfl
@[simp] theorem advance_e (s : State) (k : Nat) : (advance k s).e = s.e := rfl
@[simp] theorem advance_h (s : State) (k : Nat) : (advance k s).h = s.h := rfl
@[simp] theorem advance_l (s : State) (k : Nat) : (advance k s).l = s.l := rfl
@[simp] theorem advance_sp (s : State) (k : Nat) : (advance k s).sp = s.sp := rfl
@[simp] theorem advance_pc (s : State) (k : Nat) : (advance k s).pc = s.nextAddress k := rfl
@[simp] theorem advance_flags (s : State) (k : Nat) : (advance k s).flags = s.flags := rfl
@[simp] theorem advance_inte (s : State) (k : Nat) : (advance k s).inte = s.inte := rfl
@[simp] theorem advance_mem (s : State) (k : Nat) : (advance k s).mem = s.mem := rfl
@[simp] theorem advance_run (s : State) (k : Nat) : (advance k s).run = s.run := rfl
@[simp] theorem advance_fault (s : State) (k : Nat) : (advance k s).fault = s.fault := rfl
@[simp] theorem advance_io (s : State) (k : Nat) : (advance k s).io = s.io := rfl
@[simp] theorem advance_cfg (s : State) (k : Nat) : (advance k s).cfg = s.cfg := rfl
@[simp] theorem advance_reg (s : State) (k : Nat) (q : Reg) : (advance k s).reg q = s.reg q := by cases q <;> rfl
@[simp] theorem advance_bc (s : State) (k : Nat) : (advance k s).bc = s.bc := rfl
@[simp] theorem advance_de (s : State) (k : Nat) : (advance k s).de = s.de := rfl
@[simp] theorem advance_hl (s : State) (k : Nat) : (advance k s).hl = s.hl := rfl
@[simp] theorem advance_index (s : State) (k : Nat) (at_ : Word) : (advance k s).index at_ = s.index at_ := rfl
@[simp] theorem advance_memRead (s : State) (k : Nat) (at_ : Word) : memRead (advance k s) at_ = memRead s at_ := rfl
@[simp] theorem advance_memReadWord (s : State) (k : Nat) (at_ : Word) :
    memReadWord (advance k s) at_ = memReadWord s at_ := rfl

/-! ## preIncrement -/

@[simp] theorem preIncrement_a (s : State) : (preIncrement s).a = s.a := rfl
@[simp] theorem preIncrement_b (s : State) : (preIncrement s).b = s.b := rfl
@[simp] theorem preIncrement_c (s : State) : (preIncrement s).c = s.c := rfl
@[simp] theorem preIncrement_d (s : State) : (preIncrement s).d = s.d := rfl
@[simp] theorem preIncrement_e (s : State) : (preIncrement s).e = s.e := rfl
@[simp] theorem preIncrement_h (s : State) : (preIncrement s).h = s.h := rfl
@[simp] theorem preIncrement_l (s : State) : (preIncrement s).l = s.l := rfl
@[simp] theorem preIncrement_sp (s : State) : (preIncrement s).sp = s.sp := rfl
@[simp] theorem preIncrement_pc (s : State) : (preIncrement s).pc = s.pc + 1 := rfl
@[simp] theorem preIncrement_flags (s : State) : (preIncrement s).flags = s.flags := rfl
@[simp] theorem preIncrement_inte (s : State) : (preIncrement s).inte = s.inte := rfl
@[simp] theorem preIncrement_mem (s : State) : (preIncrement s).mem = s.mem := rfl
@[simp] theorem preIncrement_run (s : State) : (preIncrement s).run = s.run := rfl
@[simp] theorem preIncrement_fault (s : State) : (preIncrement s).fault = s.fault := rfl
@[simp] theorem preIncrement_io (s : State) : (preIncrement s).io = s.io := rfl
@[simp] theorem preIncrement_cfg (s : State) : (preIncrement s).cfg = s.cfg := rfl
@[simp] theorem preIncrement_reg (s : State) (q : Reg) : (preIncrement s).reg q = s.reg q := by cases q <;> rfl
@[simp] theorem preIncrement_bc (s : State) : (preIncrement s).bc = s.bc := rfl
@[simp] theorem preIncrement_de (s : State) : (preIncrement s).de = s.de := rfl
@[simp] theorem preIncrement_hl (s : State) : (preIncrement s).hl = s.hl := rfl
@[simp] theorem preIncrement_index (s : State) (at_ : Word) : (preIncrement s).index at_ = s.index at_ := rfl
@[simp] theorem preIncrement_memRead (s : State) (at_ : Word) : memRead (preIncrement s) at_ = memRead s at_ := rfl
@[simp] theorem preIncrement_memReadWord (s : State) (at_ : Word) :
    memReadWord (preIncrement s) at_ = memReadWord s at_ := rfl

/-! ## memWrite -/

@[simp] theorem memWrite_a (s : State) (addr : Word) (v : Byte) : (memWrite addr v s).a = s.a := rfl
@[simp] theorem memWrite_b (s : State) (addr : Word) (v : Byte) : (memWrite addr v s).b = s.b := rfl
@[simp] theorem memWrite_c (s : State) (addr : Word) (v : Byte) : (memWrite addr v s).c = s.c := rfl
@[simp] theorem memWrite_d (s : State) (addr : Word) (v : Byte) : (memWrite addr v s).d = s.d := rfl
@[simp] theorem memWrite_e (s : State) (addr : Word) (v : Byte) : (memWrite addr v s).e = s.e := rfl
@[simp] theorem memWrite_h (s : State) (addr : Word) (v : Byte) : (memWrite addr v s).h = s.h := rfl
@[simp] theorem memWrite_l (s : State) (addr : Word) (v : Byte) : (memWrite addr v s).l = s.l := rfl
@[simp] theorem memWrite_sp (s : State) (addr : Word) (v : Byte) : (memWrite addr v s).sp = s.sp := rfl
@[simp] theorem memWrite_pc (s : State) (addr : Word) (v : Byte) : (memWrite addr v s).pc = s.pc := rfl
@[simp] theorem memWrite_flags (s : State) (addr : Word) (v : Byte) : (memWrite addr v s).flags = s.flags := rfl
@[simp] theorem memWrite_inte (s : State) (addr : Word) (v : Byte) : (memWrite addr v s).inte = s.inte := rfl
@[simp] theorem memWrite_mem (s : State) (addr : Word) (v : Byte) :
    (memWrite addr v s).mem = Memory.write s.mem (s.index addr) v := rfl
@[simp] theorem memWrite_run (s : State) (addr : Word) (v : Byte) : (memWrite addr v s).run = s.run := rfl
@[simp] theorem memWrite_fault (s : State) (addr : Word) (v : Byte) : (memWrite addr v s).fault = s.fault := rfl
@[simp] theorem memWrite_io (s : State) (addr : Word) (v : Byte) : (memWrite addr v s).io = s.io := rfl
@[simp] theorem memWrite_cfg (s : State) (addr : Word) (v : Byte) : (memWrite addr v s).cfg = s.cfg := rfl
@[simp] theorem memWrite_reg (s : State) (addr : Word) (v : Byte) (q : Reg) :
    (memWrite addr v s).reg q = s.reg q := by cases q <;> rfl
@[simp] theorem memWrite_bc (s : State) (addr : Word) (v : Byte) : (memWrite addr v s).bc = s.bc := rfl
@[simp] theorem memWrite_de (s : State) (addr : Word) (v : Byte) : (memWrite addr v s).de = s.de := rfl
@[simp] theorem memWrite_hl (s : State) (addr : Word) (v : Byte) : (memWrite addr v s).hl = s.hl := rfl
@[simp] theorem memWrite_index (s : State) (addr : Word) (v : Byte) (at_ : Word) :
    (memWrite addr v s).index at_ = s.index at_ := rfl

/-! ## memWriteWord -/

@[simp] theorem memWriteWord_a (s : State) (addr w : Word) : (memWriteWord addr w s).a = s.a := rfl
@[simp] theorem memWriteWord_b (s : State) (addr w : Word) : (memWriteWord addr w s).b = s.b := rfl
@[simp] theorem memWriteWord_c (s : State) (addr w : Word) : (memWriteWord addr w s).c = s.c := rfl
@[simp] theorem memWriteWord_d (s : State) (addr w : Word) : (memWriteWord addr w s).d = s.d := rfl
@[simp] theorem memWriteWord_e (s : State) (addr w : Word) : (memWriteWord addr w s).e = s.e := rfl
@[simp] theorem memWriteWord_h (s : State) (addr w : Word) : (memWriteWord addr w s).h = s.h := rfl
@[simp] theorem memWriteWord_l (s : State) (addr w : Word) : (memWriteWord addr w s).l = s.l := rfl
@[simp] theorem memWriteWord_sp (s : State) (addr w : Word) : (memWriteWord addr w s).sp = s.sp := rfl
@[simp] theorem memWriteWord_pc (s : State) (addr w : Word) : (memWriteWord addr w s).pc = s.pc := rfl
@[simp] theorem memWriteWord_flags (s : State) (addr w : Word) : (memWriteWord addr w s).flags = s.flags := rfl
@[simp] theorem memWriteWord_inte (s : State) (addr w : Word) : (memWriteWord addr w s).inte = s.inte := rfl
@[simp] theorem memWriteWord_run (s : State) (addr w : Word) : (memWriteWord addr w s).run = s.run := rfl
@[simp] theorem memWriteWord_fault (s : State) (addr w : Word) : (memWriteWord addr w s).fault = s.fault := rfl
@[simp] theorem memWriteWord_io (s : State) (addr w : Word) : (memWriteWord addr w s).io = s.io := rfl
@[simp] theorem memWriteWord_cfg (s : State) (addr w : Word) : (memWriteWord addr w s).cfg = s.cfg := rfl
@[simp] theorem memWriteWord_reg (s : State) (addr w : Word) (q : Reg) :
    (memWriteWord addr w s).reg q = s.reg q := by cases q <;> rfl
@[simp] theorem memWriteWord_bc (s : State) (addr w : Word) : (memWriteWord addr w s).bc = s.bc := rfl
@[simp] theorem memWriteWord_de (s : State) (addr w : Word) : (memWriteWord addr w s).de = s.de := rfl
@[simp] theorem memWriteWord_hl (s : State) (addr w : Word) : (memWriteWord addr w s).hl = s.hl := rfl
@[simp] theorem memWriteWord_index (s : State) (addr w : Word) (at_ : Word) :
    (memWriteWord addr w s).index at_ = s.index at_ := rfl

/-! ## setReg -/

@[simp] theorem setReg_sp (s : State) (r : Reg) (v : Byte) : (s.setReg r v).sp = s.sp := by cases r <;> rfl
@[simp] theorem setReg_pc (s : State) (r : Reg) (v : Byte) : (s.setReg r v).pc = s.pc := by cases r <;> rfl
@[simp] theorem setReg_flags (s : State) (r : Reg) (v : Byte) : (s.setReg r v).flags = s.flags := by cases r <;> rfl
@[simp] theorem setReg_inte (s : State) (r : Reg) (v : Byte) : (s.setReg r v).inte = s.inte := by cases r <;> rfl
@[simp] theorem setReg_mem (s : State) (r : Reg) (v : Byte) : (s.setReg r v).mem = s.mem := by cases r <;> rfl
@[simp] theorem setReg_run (s : State) (r : Reg) (v : Byte) : (s.setReg r v).run = s.run := by cases r <;> rfl
@[simp] theorem setReg_fault (s : State) (r : Reg) (v : Byte) : (s.setReg r v).fault = s.fault := by cases r <;> rfl
@[simp] theorem setReg_io (s : State) (r : Reg) (v : Byte) : (s.setReg r v).io = s.io := by cases r <;> rfl
@[simp] theorem setReg_cfg (s : State) (r : Reg) (v : Byte) : (s.setReg r v).cfg = s.cfg := by cases r <;> rfl
@[simp] theorem setReg_index (s : State) (r : Reg) (v : Byte) (at_ : Word) :
    (s.setReg r v).index at_ = s.index at_ := by cases r <;> rfl
@[simp] theorem setReg_memRead (s : State) (r : Reg) (v : Byte) (at_ : Word) :
    memRead (s.setReg r v) at_ = memRead s at_ := by cases r <;> rfl
@[simp] theorem setReg_memReadWord (s : State) (r : Reg) (v : Byte) (at_ : Word) :
    memReadWord (s.setReg r v) at_ = memReadWord s at_ := by cases r <;> rfl

/-! ## setBC -/

@[simp] theorem setBC_a (s : State) (w : Word) : (s.setBC w).a = s.a := rfl
@[simp] theorem setBC_b (s : State) (w : Word) : (s.setBC w).b = highByte w := rfl
@[simp] theorem setBC_c (s : State) (w : Word) : (s.setBC w).c = lowByte w := rfl
@[simp] theorem setBC_d (s : State) (w : Word) : (s.setBC w).d = s.d := rfl
@[simp] theorem setBC_e (s : State) (w : Word) : (s.setBC w).e = s.e := rfl
@[simp] theorem setBC_h (s : State) (w : Word) : (s.setBC w).h = s.h := rfl
@[simp] theorem setBC_l (s : State) (w : Word) : (s.setBC w).l = s.l := rfl
@[simp] theorem setBC_sp (s : State) (w : Word) : (s.setBC w).sp = s.sp := rfl
@[simp] theorem setBC_pc (s : State) (w : Word) : (s.setBC w).pc = s.pc := rfl
@[simp] theorem setBC_flags (s : State) (w : Word) : (s.setBC w).flags = s.flags := rfl
@[simp] theorem setBC_inte (s : State) (w : Word) : (s.setBC w).inte = s.inte := rfl
@[simp] theorem setBC_mem (s : State) (w : Word) : (s.setBC w).mem = s.mem := rfl
@[simp] theorem setBC_run (s : State) (w : Word) : (s.setBC w).run = s.run := rfl
@[simp] theorem setBC_fault (s : State) (w : Word) : (s.setBC w).fault = s.fault := rfl
@[simp] theorem setBC_io (s : State) (w : Word) : (s.setBC w).io = s.io := rfl
@[simp] theorem setBC_cfg (s : State) (w : Word) : (s.setBC w).cfg = s.cfg := rfl
@[simp] theorem setBC_index (s : State) (w : Word) (at_ : Word) : (s.setBC w).index at_ = s.index at_ := rfl
@[simp] theorem setBC_memRead (s : State) (w : Word) (at_ : Word) : memRead (s.setBC w) at_ = memRead s at_ := rfl
@[simp] theorem setBC_memReadWord (s : State) (w : Word) (at_ : Word) :
    memReadWord (s.setBC w) at_ = memReadWord s at_ := rfl

/-! ## setDE -/

@[simp] theorem setDE_a (s : State) (w : Word) : (s.setDE w).a = s.a := rfl
@[simp] theorem setDE_b (s : State) (w : Word) : (s.setDE w).b = s.b := rfl
@[simp] theorem setDE_c (s : State) (w : Word) : (s.setDE w).c = s.c := rfl
@[simp] theorem setDE_d (s : State) (w : Word) : (s.setDE w).d = highByte w := rfl
@[simp] theorem setDE_e (s : State) (w : Word) : (s.setDE w).e = lowByte w := rfl
@[simp] theorem setDE_h (s : State) (w : Word) : (s.setDE w).h = s.h := rfl
@[simp] theorem setDE_l (s : State) (w : Word) : (s.setDE w).l = s.l := rfl
@[simp] theorem setDE_sp (s : State) (w : Word) : (s.setDE w).sp = s.sp := rfl
@[simp] theorem setDE_pc (s : State) (w : Word) : (s.setDE w).pc = s.pc := rfl
@[simp] theorem setDE_flags (s : State) (w : Word) : (s.setDE w).flags = s.flags := rfl
@[simp] theorem setDE_inte (s : State) (w : Word) : (s.setDE w).inte = s.inte := rfl
@[simp] theorem setDE_mem (s : State) (w : Word) : (s.setDE w).mem = s.mem := rfl
@[simp] theorem setDE_run (s : State) (w : Word) : (s.setDE w).run = s.run := rfl
@[simp] theorem setDE_fault (s : State) (w : Word) : (s.setDE w).fault = s.fault := rfl
@[simp] theorem setDE_io (s : State) (w : Word) : (s.setDE w).io = s.io := rfl
@[simp] theorem setDE_cfg (s : State) (w : Word) : (s.setDE w).cfg = s.cfg := rfl
@[simp] theorem setDE_index (s : State) (w : Word) (at_ : Word) : (s.setDE w).index at_ = s.index at_ := rfl
@[simp] theorem setDE_memRead (s : State) (w : Word) (at_ : Word) : memRead (s.setDE w) at_ = memRead s at_ := rfl
@[simp] theorem setDE_memReadWord (s : State) (w : Word) (at_ : Word) :
    memReadWord (s.setDE w) at_ = memReadWord s at_ := rfl

/-! ## setHL -/

@[simp] theorem setHL_a (s : State) (w : Word) : (s.setHL w).a = s.a := rfl
@[simp] theorem setHL_b (s : State) (w : Word) : (s.setHL w).b = s.b := rfl
@[simp] theorem setHL_c (s : State) (w : Word) : (s.setHL w).c = s.c := rfl
@[simp] theorem setHL_d (s : State) (w : Word) : (s.setHL w).d = s.d := rfl
@[simp] theorem setHL_e (s : State) (w : Word) : (s.setHL w).e = s.e := rfl
@[simp] theorem setHL_h (s : State) (w : Word) : (s.setHL w).h = highByte w := rfl
@[simp] theorem setHL_l (s : State) (w : Word) : (s.setHL w).l = lowByte w := rfl
@[simp] theorem setHL_sp (s : State) (w : Word) : (s.setHL w).sp = s.sp := rfl
@[simp] theorem setHL_pc (s : State) (w : Word) : (s.setHL w).pc = s.pc := rfl
@[simp] theorem setHL_flags (s : State) (w : Word) : (s.setHL w).flags = s.flags := rfl
@[simp] theorem setHL_inte (s : State) (w : Word) : (s.setHL w).inte = s.inte := rfl
@[simp] theorem setHL_mem (s : State) (w : Word) : (s.setHL w).mem = s.mem := rfl
@[simp] theorem setHL_run (s : State) (w : Word) : (s.setHL w).run = s.run := rfl
@[simp] theorem setHL_fault (s : State) (w : Word) : (s.setHL w).fault = s.fault := rfl
@[simp] theorem setHL_io (s : State) (w : Word) : (s.setHL w).io = s.io := rfl
@[simp] theorem setHL_cfg (s : State) (w : Word) : (s.setHL w).cfg = s.cfg := rfl
@[simp] theorem setHL_index (s : State) (w : Word) (at_ : Word) : (s.setHL w).index at_ = s.index at_ := rfl
@[simp] theorem setHL_memRead (s : State) (w : Word) (at_ : Word) : memRead (s.setHL w) at_ = memRead s at_ := rfl
@[simp] theorem setHL_memReadWord (s : State) (w : Word) (at_ : Word) :
    memReadWord (s.setHL w) at_ = memReadWord s at_ := rfl

/-! ## setPair -/

@[simp] theorem setPair_a (s : State) (k : RegPair) (w : Word) : (s.setPair k w).a = s.a := by cases k <;> rfl
@[simp] theorem setPair_pc (s : State) (k : RegPair) (w : Word) : (s.setPair k w).pc = s.pc := by cases k <;> rfl
@[simp] theorem setPair_flags (s : State) (k : RegPair) (w : Word) :
    (s.setPair k w).flags = s.flags := by cases k <;> rfl
@[simp] theorem setPair_inte (s : State) (k : RegPair) (w : Word) :
    (s.setPair k w).inte = s.inte := by cases k <;> rfl
@[simp] theorem setPair_mem (s : State) (k : RegPair) (w : Word) : (s.setPair k w).mem = s.mem := by cases k <;> rfl
@[simp] theorem setPair_run (s : State) (k : RegPair) (w : Word) : (s.setPair k w).run = s.run := by cases k <;> rfl
@[simp] theorem setPair_fault (s : State) (k : RegPair) (w : Word) :
    (s.setPair k w).fault = s.fault := by cases k <;> rfl
@[simp] theorem setPair_io (s : State) (k : RegPair) (w : Word) : (s.setPair k w).io = s.io := by cases k <;> rfl
@[simp] theorem setPair_cfg (s : State) (k : RegPair) (w : Word) : (s.setPair k w).cfg = s.cfg := by cases k <;> rfl
@[simp] theorem setPair_index (s : State) (k : RegPair) (w : Word) (at_ : Word) :
    (s.setPair k w).index at_ = s.index at_ := by cases k <;> rfl
@[simp] theorem setPair_memRead (s : State) (k : RegPair) (w : Word) (at_ : Word) :
    memRead (s.setPair k w) at_ = memRead s at_ := by cases k <;> rfl
@[simp] theorem setPair_memReadWord (s : State) (k : RegPair) (w : Word) (at_ : Word) :
    memReadWord (s.setPair k w) at_ = memReadWord s at_ := by cases k <;> rfl

/-! ## setStackPair -/

@[simp] theorem setStackPair_sp (s : State) (k : StackPair) (w : Word) :
    (s.setStackPair k w).sp = s.sp := by cases k <;> rfl
@[simp] theorem setStackPair_pc (s : State) (k : StackPair) (w : Word) :
    (s.setStackPair k w).pc = s.pc := by cases k <;> rfl
@[simp] theorem setStackPair_inte (s : State) (k : StackPair) (w : Word) :
    (s.setStackPair k w).inte = s.inte := by cases k <;> rfl
@[simp] theorem setStackPair_mem (s : State) (k : StackPair) (w : Word) :
    (s.setStackPair k w).mem = s.mem := by cases k <;> rfl
@[simp] theorem setStackPair_run (s : State) (k : StackPair) (w : Word) :
    (s.setStackPair k w).run = s.run := by cases k <;> rfl
@[simp] theorem setStackPair_fault (s : State) (k : StackPair) (w : Word) :
    (s.setStackPair k w).fault = s.fault := by cases k <;> rfl
@[simp] theorem setStackPair_io (s : State) (k : StackPair) (w : Word) :
    (s.setStackPair k w).io = s.io := by cases k <;> rfl
@[simp] theorem setStackPair_cfg (s : State) (k : StackPair) (w : Word) :
    (s.setStackPair k w).cfg = s.cfg := by cases k <;> rfl
@[simp] theorem setStackPair_index (s : State) (k : StackPair) (w : Word) (at_ : Word) :
    (s.setStackPair k w).index at_ = s.index at_ := by cases k <;> rfl
@[simp] theorem setStackPair_memRead (s : State) (k : StackPair) (w : Word) (at_ : Word) :
    memRead (s.setStackPair k w) at_ = memRead s at_ := by cases k <;> rfl
@[simp] theorem setStackPair_memReadWord (s : State) (k : StackPair) (w : Word) (at_ : Word) :
    memReadWord (s.setStackPair k w) at_ = memReadWord s at_ := by cases k <;> rfl

/-! ## writeOperand -/

@[simp] theorem writeOperand_sp (s : State) (o : Operand) (v : Byte) :
    (writeOperand o v s).sp = s.sp := by
  cases o with
  | reg r => cases r <;> rfl
  | m => rfl
@[simp] theorem writeOperand_pc (s : State) (o : Operand) (v : Byte) :
    (writeOperand o v s).pc = s.pc := by
  cases o with
  | reg r => cases r <;> rfl
  | m => rfl
@[simp] theorem writeOperand_flags (s : State) (o : Operand) (v : Byte) :
    (writeOperand o v s).flags = s.flags := by
  cases o with
  | reg r => cases r <;> rfl
  | m => rfl
@[simp] theorem writeOperand_inte (s : State) (o : Operand) (v : Byte) :
    (writeOperand o v s).inte = s.inte := by
  cases o with
  | reg r => cases r <;> rfl
  | m => rfl
@[simp] theorem writeOperand_run (s : State) (o : Operand) (v : Byte) :
    (writeOperand o v s).run = s.run := by
  cases o with
  | reg r => cases r <;> rfl
  | m => rfl
@[simp] theorem writeOperand_fault (s : State) (o : Operand) (v : Byte) :
    (writeOperand o v s).fault = s.fault := by
  cases o with
  | reg r => cases r <;> rfl
  | m => rfl
@[simp] theorem writeOperand_io (s : State) (o : Operand) (v : Byte) :
    (writeOperand o v s).io = s.io := by
  cases o with
  | reg r => cases r <;> rfl
  | m => rfl
@[simp] theorem writeOperand_cfg (s : State) (o : Operand) (v : Byte) :
    (writeOperand o v s).cfg = s.cfg := by
  cases o with
  | reg r => cases r <;> rfl
  | m => rfl
@[simp] theorem writeOperand_index (s : State) (o : Operand) (v : Byte) (at_ : Word) :
    (writeOperand o v s).index at_ = s.index at_ := by
  cases o with
  | reg r => cases r <;> rfl
  | m => rfl

/-! ## push16 -/

@[simp] theorem push16_a (s : State) (w : Word) : (push16 w s).a = s.a := rfl
@[simp] theorem push16_b (s : State) (w : Word) : (push16 w s).b = s.b := rfl
@[simp] theorem push16_c (s : State) (w : Word) : (push16 w s).c = s.c := rfl
@[simp] theorem push16_d (s : State) (w : Word) : (push16 w s).d = s.d := rfl
@[simp] theorem push16_e (s : State) (w : Word) : (push16 w s).e = s.e := rfl
@[simp] theorem push16_h (s : State) (w : Word) : (push16 w s).h = s.h := rfl
@[simp] theorem push16_l (s : State) (w : Word) : (push16 w s).l = s.l := rfl
@[simp] theorem push16_sp (s : State) (w : Word) : (push16 w s).sp = s.sp - 2 := rfl
@[simp] theorem push16_pc (s : State) (w : Word) : (push16 w s).pc = s.pc := rfl
@[simp] theorem push16_flags (s : State) (w : Word) : (push16 w s).flags = s.flags := rfl
@[simp] theorem push16_inte (s : State) (w : Word) : (push16 w s).inte = s.inte := rfl
@[simp] theorem push16_run (s : State) (w : Word) : (push16 w s).run = s.run := rfl
@[simp] theorem push16_fault (s : State) (w : Word) : (push16 w s).fault = s.fault := rfl
@[simp] theorem push16_io (s : State) (w : Word) : (push16 w s).io = s.io := rfl
@[simp] theorem push16_cfg (s : State) (w : Word) : (push16 w s).cfg = s.cfg := rfl
@[simp] theorem push16_reg (s : State) (w : Word) (q : Reg) : (push16 w s).reg q = s.reg q := by cases q <;> rfl
@[simp] theorem push16_bc (s : State) (w : Word) : (push16 w s).bc = s.bc := rfl
@[simp] theorem push16_de (s : State) (w : Word) : (push16 w s).de = s.de := rfl
@[simp] theorem push16_hl (s : State) (w : Word) : (push16 w s).hl = s.hl := rfl
@[simp] theorem push16_index (s : State) (w : Word) (at_ : Word) : (push16 w s).index at_ = s.index at_ := rfl

/-! ## dropWord -/

@[simp] theorem dropWord_a (s : State) : (dropWord s).a = s.a := rfl
@[simp] theorem dropWord_b (s : State) : (dropWord s).b = s.b := rfl
@[simp] theorem dropWord_c (s : State) : (dropWord s).c = s.c := rfl
@[simp] theorem dropWord_d (s : State) : (dropWord s).d = s.d := rfl
@[simp] theorem dropWord_e (s : State) : (dropWord s).e = s.e := rfl
@[simp] theorem dropWord_h (s : State) : (dropWord s).h = s.h := rfl
@[simp] theorem dropWord_l (s : State) : (dropWord s).l = s.l := rfl
@[simp] theorem dropWord_sp (s : State) : (dropWord s).sp = s.sp + 2 := rfl
@[simp] theorem dropWord_pc (s : State) : (dropWord s).pc = s.pc := rfl
@[simp] theorem dropWord_flags (s : State) : (dropWord s).flags = s.flags := rfl
@[simp] theorem dropWord_inte (s : State) : (dropWord s).inte = s.inte := rfl
@[simp] theorem dropWord_mem (s : State) : (dropWord s).mem = s.mem := rfl
@[simp] theorem dropWord_run (s : State) : (dropWord s).run = s.run := rfl
@[simp] theorem dropWord_fault (s : State) : (dropWord s).fault = s.fault := rfl
@[simp] theorem dropWord_io (s : State) : (dropWord s).io = s.io := rfl
@[simp] theorem dropWord_cfg (s : State) : (dropWord s).cfg = s.cfg := rfl
@[simp] theorem dropWord_reg (s : State) (q : Reg) : (dropWord s).reg q = s.reg q := by cases q <;> rfl
@[simp] theorem dropWord_bc (s : State) : (dropWord s).bc = s.bc := rfl
@[simp] theorem dropWord_de (s : State) : (dropWord s).de = s.de := rfl
@[simp] theorem dropWord_hl (s : State) : (dropWord s).hl = s.hl := rfl
@[simp] theorem dropWord_index (s : State) (at_ : Word) : (dropWord s).index at_ = s.index at_ := rfl
@[simp] theorem dropWord_memRead (s : State) (at_ : Word) : memRead (dropWord s) at_ = memRead s at_ := rfl
@[simp] theorem dropWord_memReadWord (s : State) (at_ : Word) :
    memReadWord (dropWord s) at_ = memReadWord s at_ := rfl

/-! ## recordIo -/

@[simp] theorem recordIo_a (s : State) (ev : IoEvent) : (recordIo ev s).a = s.a := rfl
@[simp] theorem recordIo_b (s : State) (ev : IoEvent) : (recordIo ev s).b = s.b := rfl
@[simp] theorem recordIo_c (s : State) (ev : IoEvent) : (recordIo ev s).c = s.c := rfl
@[simp] theorem recordIo_d (s : State) (ev : IoEvent) : (recordIo ev s).d = s.d := rfl
@[simp] theorem recordIo_e (s : State) (ev : IoEvent) : (recordIo ev s).e = s.e := rfl
@[simp] theorem recordIo_h (s : State) (ev : IoEvent) : (recordIo ev s).h = s.h := rfl
@[simp] theorem recordIo_l (s : State) (ev : IoEvent) : (recordIo ev s).l = s.l := rfl
@[simp] theorem recordIo_sp (s : State) (ev : IoEvent) : (recordIo ev s).sp = s.sp := rfl
@[simp] theorem recordIo_pc (s : State) (ev : IoEvent) : (recordIo ev s).pc = s.pc := rfl
@[simp] theorem recordIo_flags (s : State) (ev : IoEvent) : (recordIo ev s).flags = s.flags := rfl
@[simp] theorem recordIo_inte (s : State) (ev : IoEvent) : (recordIo ev s).inte = s.inte := rfl
@[simp] theorem recordIo_mem (s : State) (ev : IoEvent) : (recordIo ev s).mem = s.mem := rfl
@[simp] theorem recordIo_run (s : State) (ev : IoEvent) : (recordIo ev s).run = s.run := rfl
@[simp] theorem recordIo_fault (s : State) (ev : IoEvent) : (recordIo ev s).fault = s.fault := rfl
@[simp] theorem recordIo_io (s : State) (ev : IoEvent) : (recordIo ev s).io = s.io ++ [ev] := rfl
@[simp] theorem recordIo_cfg (s : State) (ev : IoEvent) : (recordIo ev s).cfg = s.cfg := rfl
@[simp] theorem recordIo_reg (s : State) (ev : IoEvent) (q : Reg) :
    (recordIo ev s).reg q = s.reg q := by cases q <;> rfl
@[simp] theorem recordIo_bc (s : State) (ev : IoEvent) : (recordIo ev s).bc = s.bc := rfl
@[simp] theorem recordIo_de (s : State) (ev : IoEvent) : (recordIo ev s).de = s.de := rfl
@[simp] theorem recordIo_hl (s : State) (ev : IoEvent) : (recordIo ev s).hl = s.hl := rfl
@[simp] theorem recordIo_index (s : State) (ev : IoEvent) (at_ : Word) :
    (recordIo ev s).index at_ = s.index at_ := rfl
@[simp] theorem recordIo_memRead (s : State) (ev : IoEvent) (at_ : Word) :
    memRead (recordIo ev s) at_ = memRead s at_ := rfl
@[simp] theorem recordIo_memReadWord (s : State) (ev : IoEvent) (at_ : Word) :
    memReadWord (recordIo ev s) at_ = memReadWord s at_ := rfl

/-! ## haltNormal -/

@[simp] theorem haltNormal_a (s : State) : (haltNormal s).a = s.a := rfl
@[simp] theorem haltNormal_b (s : State) : (haltNormal s).b = s.b := rfl
@[simp] theorem haltNormal_c (s : State) : (haltNormal s).c = s.c := rfl
@[simp] theorem haltNormal_d (s : State) : (haltNormal s).d = s.d := rfl
@[simp] theorem haltNormal_e (s : State) : (haltNormal s).e = s.e := rfl
@[simp] theorem haltNormal_h (s : State) : (haltNormal s).h = s.h := rfl
@[simp] theorem haltNormal_l (s : State) : (haltNormal s).l = s.l := rfl
@[simp] theorem haltNormal_sp (s : State) : (haltNormal s).sp = s.sp := rfl
@[simp] theorem haltNormal_pc (s : State) : (haltNormal s).pc = s.pc := rfl
@[simp] theorem haltNormal_flags (s : State) : (haltNormal s).flags = s.flags := rfl
@[simp] theorem haltNormal_inte (s : State) : (haltNormal s).inte = s.inte := rfl
@[simp] theorem haltNormal_mem (s : State) : (haltNormal s).mem = s.mem := rfl
@[simp] theorem haltNormal_run (s : State) : (haltNormal s).run = .haltedNormal := rfl
@[simp] theorem haltNormal_fault (s : State) : (haltNormal s).fault = s.fault := rfl
@[simp] theorem haltNormal_io (s : State) : (haltNormal s).io = s.io := rfl
@[simp] theorem haltNormal_cfg (s : State) : (haltNormal s).cfg = s.cfg := rfl
@[simp] theorem haltNormal_reg (s : State) (q : Reg) : (haltNormal s).reg q = s.reg q := by cases q <;> rfl
@[simp] theorem haltNormal_bc (s : State) : (haltNormal s).bc = s.bc := rfl
@[simp] theorem haltNormal_de (s : State) : (haltNormal s).de = s.de := rfl
@[simp] theorem haltNormal_hl (s : State) : (haltNormal s).hl = s.hl := rfl
@[simp] theorem haltNormal_index (s : State) (at_ : Word) : (haltNormal s).index at_ = s.index at_ := rfl
@[simp] theorem haltNormal_memRead (s : State) (at_ : Word) : memRead (haltNormal s) at_ = memRead s at_ := rfl
@[simp] theorem haltNormal_memReadWord (s : State) (at_ : Word) :
    memReadWord (haltNormal s) at_ = memReadWord s at_ := rfl

/-! ## raiseUnimplementedOpcode -/

@[simp] theorem raiseUnimplementedOpcode_a (s : State) (op : Byte) (addr : Word) :
    (raiseUnimplementedOpcode op addr s).a = s.a := rfl
@[simp] theorem raiseUnimplementedOpcode_b (s : State) (op : Byte) (addr : Word) :
    (raiseUnimplementedOpcode op addr s).b = s.b := rfl
@[simp] theorem raiseUnimplementedOpcode_c (s : State) (op : Byte) (addr : Word) :
    (raiseUnimplementedOpcode op addr s).c = s.c := rfl
@[simp] theorem raiseUnimplementedOpcode_d (s : State) (op : Byte) (addr : Word) :
    (raiseUnimplementedOpcode op addr s).d = s.d := rfl
@[simp] theorem raiseUnimplementedOpcode_e (s : State) (op : Byte) (addr : Word) :
    (raiseUnimplementedOpcode op addr s).e = s.e := rfl
@[simp] theorem raiseUnimplementedOpcode_h (s : State) (op : Byte) (addr : Word) :
    (raiseUnimplementedOpcode op addr s).h = s.h := rfl
@[simp] theorem raiseUnimplementedOpcode_l (s : State) (op : Byte) (addr : Word) :
    (raiseUnimplementedOpcode op addr s).l = s.l := rfl
@[simp] theorem raiseUnimplementedOpcode_sp (s : State) (op : Byte) (addr : Word) :
    (raiseUnimplementedOpcode op addr s).sp = s.sp := rfl
@[simp] theorem raiseUnimplementedOpcode_pc (s : State) (op : Byte) (addr : Word) :
    (raiseUnimplementedOpcode op addr s).pc = s.pc := rfl
@[simp] theorem raiseUnimplementedOpcode_flags (s : State) (op : Byte) (addr : Word) :
    (raiseUnimplementedOpcode op addr s).flags = s.flags := rfl
@[simp] theorem raiseUnimplementedOpcode_inte (s : State) (op : Byte) (addr : Word) :
    (raiseUnimplementedOpcode op addr s).inte = s.inte := rfl
@[simp] theorem raiseUnimplementedOpcode_mem (s : State) (op : Byte) (addr : Word) :
    (raiseUnimplementedOpcode op addr s).mem = s.mem := rfl
@[simp] theorem raiseUnimplementedOpcode_run (s : State) (op : Byte) (addr : Word) :
    (raiseUnimplementedOpcode op addr s).run = .haltedFault := rfl
@[simp] theorem raiseUnimplementedOpcode_fault (s : State) (op : Byte) (addr : Word) :
    (raiseUnimplementedOpcode op addr s).fault = some ⟨op, addr⟩ := rfl
@[simp] theorem raiseUnimplementedOpcode_io (s : State) (op : Byte) (addr : Word) :
    (raiseUnimplementedOpcode op addr s).io = s.io := rfl
@[simp] theorem raiseUnimplementedOpcode_cfg (s : State) (op : Byte) (addr : Word) :
    (raiseUnimplementedOpcode op addr s).cfg = s.cfg := rfl
@[simp] theorem raiseUnimplementedOpcode_reg (s : State) (op : Byte) (addr : Word) (q : Reg) :
    (raiseUnimplementedOpcode op addr s).reg q = s.reg q := by cases q <;> rfl
@[simp] theorem raiseUnimplementedOpcode_bc (s : State) (op : Byte) (addr : Word) :
    (raiseUnimplementedOpcode op addr s).bc = s.bc := rfl
@[simp] theorem raiseUnimplementedOpcode_de (s : State) (op : Byte) (addr : Word) :
    (raiseUnimplementedOpcode op addr s).de = s.de := rfl
@[simp] theorem raiseUnimplementedOpcode_hl (s : State) (op : Byte) (addr : Word) :
    (raiseUnimplementedOpcode op addr s).hl = s.hl := rfl
@[simp] theorem raiseUnimplementedOpcode_index (s : State) (op : Byte) (addr : Word) (at_ : Word) :
    (raiseUnimplementedOpcode op addr s).index at_ = s.index at_ := rfl
@[simp] theorem raiseUnimplementedOpcode_memRead (s : State) (op : Byte) (addr : Word) (at_ : Word) :
    memRead (raiseUnimplementedOpcode op addr s) at_ = memRead s at_ := rfl
@[simp] theorem raiseUnimplementedOpcode_memReadWord (s : State) (op : Byte) (addr : Word) (at_ : Word) :
    memReadWord (raiseUnimplementedOpcode op addr s) at_ = memReadWord s at_ := rfl

/-! ## setAccumulator -/

@[simp] theorem setAccumulator_a (s : State) (res : AluResult) : (setAccumulator res s).a = res.res := rfl
@[simp] theorem setAccumulator_b (s : State) (res : AluResult) : (setAccumulator res s).b = s.b := rfl
@[simp] theorem setAccumulator_c (s : State) (res : AluResult) : (setAccumulator res s).c = s.c := rfl
@[simp] theorem setAccumulator_d (s : State) (res : AluResult) : (setAccumulator res s).d = s.d := rfl
@[simp] theorem setAccumulator_e (s : State) (res : AluResult) : (setAccumulator res s).e = s.e := rfl
@[simp] theorem setAccumulator_h (s : State) (res : AluResult) : (setAccumulator res s).h = s.h := rfl
@[simp] theorem setAccumulator_l (s : State) (res : AluResult) : (setAccumulator res s).l = s.l := rfl
@[simp] theorem setAccumulator_sp (s : State) (res : AluResult) : (setAccumulator res s).sp = s.sp := rfl
@[simp] theorem setAccumulator_pc (s : State) (res : AluResult) : (setAccumulator res s).pc = s.pc := rfl
@[simp] theorem setAccumulator_flags (s : State) (res : AluResult) : (setAccumulator res s).flags = res.flags := rfl
@[simp] theorem setAccumulator_inte (s : State) (res : AluResult) : (setAccumulator res s).inte = s.inte := rfl
@[simp] theorem setAccumulator_mem (s : State) (res : AluResult) : (setAccumulator res s).mem = s.mem := rfl
@[simp] theorem setAccumulator_run (s : State) (res : AluResult) : (setAccumulator res s).run = s.run := rfl
@[simp] theorem setAccumulator_fault (s : State) (res : AluResult) : (setAccumulator res s).fault = s.fault := rfl
@[simp] theorem setAccumulator_io (s : State) (res : AluResult) : (setAccumulator res s).io = s.io := rfl
@[simp] theorem setAccumulator_cfg (s : State) (res : AluResult) : (setAccumulator res s).cfg = s.cfg := rfl
@[simp] theorem setAccumulator_index (s : State) (res : AluResult) (at_ : Word) :
    (setAccumulator res s).index at_ = s.index at_ := rfl
@[simp] theorem setAccumulator_memRead (s : State) (res : AluResult) (at_ : Word) :
    memRead (setAccumulator res s) at_ = memRead s at_ := rfl
@[simp] theorem setAccumulator_memReadWord (s : State) (res : AluResult) (at_ : Word) :
    memReadWord (setAccumulator res s) at_ = memReadWord s at_ := rfl

/-! ## setFlagsOnly -/

@[simp] theorem setFlagsOnly_a (s : State) (res : AluResult) : (setFlagsOnly res s).a = s.a := rfl
@[simp] theorem setFlagsOnly_b (s : State) (res : AluResult) : (setFlagsOnly res s).b = s.b := rfl
@[simp] theorem setFlagsOnly_c (s : State) (res : AluResult) : (setFlagsOnly res s).c = s.c := rfl
@[simp] theorem setFlagsOnly_d (s : State) (res : AluResult) : (setFlagsOnly res s).d = s.d := rfl
@[simp] theorem setFlagsOnly_e (s : State) (res : AluResult) : (setFlagsOnly res s).e = s.e := rfl
@[simp] theorem setFlagsOnly_h (s : State) (res : AluResult) : (setFlagsOnly res s).h = s.h := rfl
@[simp] theorem setFlagsOnly_l (s : State) (res : AluResult) : (setFlagsOnly res s).l = s.l := rfl
@[simp] theorem setFlagsOnly_sp (s : State) (res : AluResult) : (setFlagsOnly res s).sp = s.sp := rfl
@[simp] theorem setFlagsOnly_pc (s : State) (res : AluResult) : (setFlagsOnly res s).pc = s.pc := rfl
@[simp] theorem setFlagsOnly_flags (s : State) (res : AluResult) : (setFlagsOnly res s).flags = res.flags := rfl
@[simp] theorem setFlagsOnly_inte (s : State) (res : AluResult) : (setFlagsOnly res s).inte = s.inte := rfl
@[simp] theorem setFlagsOnly_mem (s : State) (res : AluResult) : (setFlagsOnly res s).mem = s.mem := rfl
@[simp] theorem setFlagsOnly_run (s : State) (res : AluResult) : (setFlagsOnly res s).run = s.run := rfl
@[simp] theorem setFlagsOnly_fault (s : State) (res : AluResult) : (setFlagsOnly res s).fault = s.fault := rfl
@[simp] theorem setFlagsOnly_io (s : State) (res : AluResult) : (setFlagsOnly res s).io = s.io := rfl
@[simp] theorem setFlagsOnly_cfg (s : State) (res : AluResult) : (setFlagsOnly res s).cfg = s.cfg := rfl
@[simp] theorem setFlagsOnly_reg (s : State) (res : AluResult) (q : Reg) :
    (setFlagsOnly res s).reg q = s.reg q := by cases q <;> rfl
@[simp] theorem setFlagsOnly_bc (s : State) (res : AluResult) : (setFlagsOnly res s).bc = s.bc := rfl
@[simp] theorem setFlagsOnly_de (s : State) (res : AluResult) : (setFlagsOnly res s).de = s.de := rfl
@[simp] theorem setFlagsOnly_hl (s : State) (res : AluResult) : (setFlagsOnly res s).hl = s.hl := rfl
@[simp] theorem setFlagsOnly_index (s : State) (res : AluResult) (at_ : Word) :
    (setFlagsOnly res s).index at_ = s.index at_ := rfl
@[simp] theorem setFlagsOnly_memRead (s : State) (res : AluResult) (at_ : Word) :
    memRead (setFlagsOnly res s) at_ = memRead s at_ := rfl
@[simp] theorem setFlagsOnly_memReadWord (s : State) (res : AluResult) (at_ : Word) :
    memReadWord (setFlagsOnly res s) at_ = memReadWord s at_ := rfl

/-! ## setRotated -/

@[simp] theorem setRotated_a (s : State) (v : Byte) (cy : Bool) : (setRotated v cy s).a = v := rfl
@[simp] theorem setRotated_b (s : State) (v : Byte) (cy : Bool) : (setRotated v cy s).b = s.b := rfl
@[simp] theorem setRotated_c (s : State) (v : Byte) (cy : Bool) : (setRotated v cy s).c = s.c := rfl
@[simp] theorem setRotated_d (s : State) (v : Byte) (cy : Bool) : (setRotated v cy s).d = s.d := rfl
@[simp] theorem setRotated_e (s : State) (v : Byte) (cy : Bool) : (setRotated v cy s).e = s.e := rfl
@[simp] theorem setRotated_h (s : State) (v : Byte) (cy : Bool) : (setRotated v cy s).h = s.h := rfl
@[simp] theorem setRotated_l (s : State) (v : Byte) (cy : Bool) : (setRotated v cy s).l = s.l := rfl
@[simp] theorem setRotated_sp (s : State) (v : Byte) (cy : Bool) : (setRotated v cy s).sp = s.sp := rfl
@[simp] theorem setRotated_pc (s : State) (v : Byte) (cy : Bool) : (setRotated v cy s).pc = s.pc := rfl
@[simp] theorem setRotated_flags (s : State) (v : Byte) (cy : Bool) :
    (setRotated v cy s).flags = { s.flags with cy := cy } := rfl
@[simp] theorem setRotated_inte (s : State) (v : Byte) (cy : Bool) : (setRotated v cy s).inte = s.inte := rfl
@[simp] theorem setRotated_mem (s : State) (v : Byte) (cy : Bool) : (setRotated v cy s).mem = s.mem := rfl
@[simp] theorem setRotated_run (s : State) (v : Byte) (cy : Bool) : (setRotated v cy s).run = s.run := rfl
@[simp] theorem setRotated_fault (s : State) (v : Byte) (cy : Bool) : (setRotated v cy s).fault = s.fault := rfl
@[simp] theorem setRotated_io (s : State) (v : Byte) (cy : Bool) : (setRotated v cy s).io = s.io := rfl
@[simp] theorem setRotated_cfg (s : State) (v : Byte) (cy : Bool) : (setRotated v cy s).cfg = s.cfg := rfl
@[simp] theorem setRotated_index (s : State) (v : Byte) (cy : Bool) (at_ : Word) :
    (setRotated v cy s).index at_ = s.index at_ := rfl
@[simp] theorem setRotated_memRead (s : State) (v : Byte) (cy : Bool) (at_ : Word) :
    memRead (setRotated v cy s) at_ = memRead s at_ := rfl
@[simp] theorem setRotated_memReadWord (s : State) (v : Byte) (cy : Bool) (at_ : Word) :
    memReadWord (setRotated v cy s) at_ = memReadWord s at_ := rfl

/-! ## Reading what was written -/

/-- A register reads the value written to it, and every other register is as before (spec/10_state.md R20). -/
theorem reg_setReg (s : State) (r q : Reg) (v : Byte) : (s.setReg r v).reg q = if q = r then v else s.reg q := by
  cases r <;> cases q <;> rfl

@[simp] theorem reg_setReg_same (s : State) (r : Reg) (v : Byte) : (s.setReg r v).reg r = v := by
  simp [reg_setReg]

theorem reg_setReg_other (s : State) (r q : Reg) (v : Byte) (hq : q ≠ r) : (s.setReg r v).reg q = s.reg q := by
  simp [reg_setReg, hq]

@[simp] theorem reg_a (s : State) : s.reg .a = s.a := rfl
@[simp] theorem reg_b (s : State) : s.reg .b = s.b := rfl
@[simp] theorem reg_c (s : State) : s.reg .c = s.c := rfl
@[simp] theorem reg_d (s : State) : s.reg .d = s.d := rfl
@[simp] theorem reg_e (s : State) : s.reg .e = s.e := rfl
@[simp] theorem reg_h (s : State) : s.reg .h = s.h := rfl
@[simp] theorem reg_l (s : State) : s.reg .l = s.l := rfl

end Sys2Proof.Machine
end

