-- ==== Sys2Proof/Laws/Memory.lean ====
section
/-! SUPPORT. The laws of memory: a read after a write, the canonical form kept by every memory operation, no cell
outside the image, the indices of neighbouring addresses, and bytes against words. -/

namespace Sys2Proof.Machine

/-! ## The list of cells -/

theorem Memory.read_filter (m : Memory) (i j : Nat) :
    Memory.read (m.filter fun cell => cell.1 != i) j = if j = i then Memory.blank else Memory.read m j := by
  induction m with
  | nil => simp [Memory.read]
  | cons cell rest ih =>
    by_cases hi : cell.1 = i
    · rw [List.filter_cons_of_neg (by simp [hi]), ih]
      by_cases hj : j = i
      · simp [hj]
      · have : cell.1 ≠ j := fun h => hj (h ▸ hi)
        simp [hj, Memory.read, this]
    · rw [List.filter_cons_of_pos (by simp [hi])]
      by_cases hc : cell.1 = j
      · have : j ≠ i := fun h => hi (hc.trans h)
        simp [Memory.read, hc, this]
      · simp [Memory.read, hc, ih]

theorem Memory.read_insert (i : Nat) (v : Byte) (m : Memory) (h : ∀ cell ∈ m, cell.1 ≠ i) (j : Nat) :
    Memory.read (Memory.insert i v m) j = if j = i then v else Memory.read m j := by
  induction m with
  | nil => by_cases hj : i = j <;> simp [Memory.insert, Memory.read, hj, eq_comm]
  | cons cell rest ih =>
    have hc : cell.1 ≠ i := h cell (List.mem_cons_self ..)
    have ih := ih fun x hx => h x (List.mem_cons_of_mem _ hx)
    unfold Memory.insert
    split
    · by_cases hj : i = j
      · simp [Memory.read, hj]
      · simp [Memory.read, hj, Ne.symm hj]
    · by_cases hj : cell.1 = j
      · have : j ≠ i := hj ▸ hc
        simp [Memory.read, hj, this]
      · simp [Memory.read, hj, ih]

/-- A read after a write: the value at the index written, and what was there at every other (spec/20_memory.md R61, R77). -/
theorem Memory.read_write (m : Memory) (i j : Nat) (v : Byte) :
    Memory.read (Memory.write m i v) j = if j = i then v else Memory.read m j := by
  have hne : ∀ cell ∈ m.filter (fun cell => cell.1 != i), cell.1 ≠ i := fun cell hc => by
    simpa using (List.mem_filter.mp hc).2
  unfold Memory.write
  by_cases hv : v = Memory.blank
  · simp only [hv, if_true, Memory.read_filter]
  · simp only [hv, if_false, Memory.read_insert i v _ hne, Memory.read_filter]
    by_cases hj : j = i <;> simp [hj]

theorem Memory.mem_insert (i : Nat) (v : Byte) (m : Memory) (cell : Host.Cell) :
    cell ∈ Memory.insert i v m ↔ cell = (i, v) ∨ cell ∈ m := by
  induction m with
  | nil => simp [Memory.insert]
  | cons x rest ih =>
    unfold Memory.insert
    split <;> simp [ih, or_left_comm]

/-- The cells after a write: the one written, unless it is blank, and the others. -/
theorem Memory.mem_write {m : Memory} {i : Nat} {v : Byte} {cell : Host.Cell} (h : cell ∈ Memory.write m i v) :
    (cell = (i, v) ∧ v ≠ Memory.blank) ∨ cell ∈ m := by
  unfold Memory.write at h
  by_cases hv : v = Memory.blank
  · simp only [hv, if_true] at h
    exact .inr (List.mem_filter.mp h).1
  · simp only [hv, if_false, Memory.mem_insert] at h
    exact h.imp (fun e => ⟨e, hv⟩) fun e => (List.mem_filter.mp e).1

theorem Memory.pairwise_insert (i : Nat) (v : Byte) (m : Memory) (hm : m.Pairwise fun x y => x.1 < y.1)
    (h : ∀ cell ∈ m, cell.1 ≠ i) : (Memory.insert i v m).Pairwise fun x y => x.1 < y.1 := by
  induction m with
  | nil => simp [Memory.insert]
  | cons x rest ih =>
    obtain ⟨hx, hr⟩ := List.pairwise_cons.mp hm
    unfold Memory.insert
    split
    · next hlt =>
      refine List.pairwise_cons.mpr ⟨fun y hy => ?_, hm⟩
      rcases List.mem_cons.mp hy with rfl | hy
      · exact hlt
      · exact Nat.lt_trans hlt (hx y hy)
    · next hge =>
      have hxi : x.1 ≠ i := h x (List.mem_cons_self ..)
      refine List.pairwise_cons.mpr ⟨fun y hy => ?_, ih hr fun c hc => h c (List.mem_cons_of_mem _ hc)⟩
      rcases (Memory.mem_insert i v rest y).mp hy with rfl | hy
      · exact Nat.lt_of_le_of_ne (Nat.le_of_not_lt hge) hxi
      · exact hx y hy

/-- A write keeps the canonical form. -/
theorem Memory.wf_write {m : Memory} (hm : Memory.wf m) (i : Nat) (v : Byte) : Memory.wf (Memory.write m i v) := by
  refine ⟨?_, fun cell hc => ?_⟩
  · have hf : (m.filter fun cell => cell.1 != i).Pairwise fun x y => x.1 < y.1 := hm.1.filter _
    unfold Memory.write
    split
    · exact hf
    · exact Memory.pairwise_insert i v _ hf fun cell hc => by simpa using (List.mem_filter.mp hc).2
  · rcases Memory.mem_write hc with ⟨rfl, hv⟩ | hc
    · exact hv
    · exact hm.2 cell hc

/-- The memory of reset has the canonical form. -/
theorem Memory.wf_reset : Memory.wf State.reset.mem := by decide

/-- Loading an image keeps the canonical form (spec/70_reset_and_hazards.md R301). -/
theorem wf_loadFrom (image : List Byte) (i : Nat) (m : Memory) (hm : Memory.wf m) :
    Memory.wf (loadFrom image i m) := by
  induction image generalizing i m with
  | nil => exact hm
  | cons v rest ih => exact ih (i + 1) _ (Memory.wf_write hm i v)

/-! ## Addresses and indices -/

theorem memSize_pos (cfg : Config) : 0 < memSize cfg := by
  have := Nat.two_pow_pos cfg.memDoublings.val
  unfold memSize
  omega

/-- MEM_SIZE is at least 4 (spec/00_scope.md R6). -/
theorem four_le_memSize (cfg : Config) : 4 ≤ memSize cfg := by
  have := Nat.two_pow_pos cfg.memDoublings.val
  unfold memSize
  omega

/-- MEM_SIZE divides 2^16 (spec/20_memory.md R63). -/
theorem memSize_dvd (cfg : Config) : memSize cfg ∣ 65536 := by
  have h : cfg.memDoublings.val ≤ 14 := by omega
  have h2 : (65536 : Nat) = 4 * 2 ^ 14 := by decide
  rw [h2]
  exact Nat.mul_dvd_mul_left 4 (Nat.pow_dvd_pow 2 h)

theorem index_lt (s : State) (addr : Word) : s.index addr < memSize s.cfg := Nat.mod_lt _ (memSize_pos _)

/-- The index of an address moved by a constant: the two reductions commute (spec/20_memory.md R63). -/
theorem index_add (s : State) (addr k : Word) :
    s.index (addr + k) = (addr.toNat + k.toNat) % memSize s.cfg := by
  unfold State.index
  rw [BitVec.toNat_add]
  exact Nat.mod_mod_of_dvd _ (memSize_dvd s.cfg)

/-- Neighbouring addresses have different indices (spec/20_memory.md R67). -/
theorem index_succ_ne (s : State) (addr : Word) : s.index (addr + 1) ≠ s.index addr := by
  have h4 := four_le_memSize s.cfg
  have hm : addr.toNat % memSize s.cfg < memSize s.cfg := Nat.mod_lt _ (memSize_pos _)
  rw [index_add]
  show (addr.toNat + 1) % memSize s.cfg ≠ addr.toNat % memSize s.cfg
  rw [Nat.add_mod, Nat.mod_eq_of_lt (show 1 < memSize s.cfg by omega)]
  by_cases hlt : addr.toNat % memSize s.cfg + 1 < memSize s.cfg
  · rw [Nat.mod_eq_of_lt hlt]
    omega
  · have : addr.toNat % memSize s.cfg + 1 = memSize s.cfg := by omega
    rw [this, Nat.mod_self]
    omega

/-! ## Bytes of memory through the state -/

/-- A byte of memory depends on the image and on MEM_SIZE only. -/
theorem memRead_congr {s t : State} (hm : t.mem = s.mem) (hc : t.cfg = s.cfg) (addr : Word) :
    memRead t addr = memRead s addr := by
  simp only [memRead, State.index, hm, hc]

/-- MemRead after MemWrite (spec/20_memory.md R61, R77). -/
theorem memRead_memWrite (s : State) (addr at_ : Word) (v : Byte) :
    memRead (memWrite addr v s) at_ = if s.index at_ = s.index addr then v else memRead s at_ := by
  simp only [memRead, memWrite_mem, memWrite_index, Memory.read_write]

theorem storesByte_memWrite (s : State) (addr : Word) (v : Byte) : StoresByte addr v s (memWrite addr v s) :=
  fun at_ => memRead_memWrite s addr at_ v

/-- A word write stores its two bytes and nothing else (spec/20_memory.md R64). -/
theorem storesWord_memWriteWord (s : State) (addr w : Word) : StoresWord addr w s (memWriteWord addr w s) := by
  intro at_
  have hne := index_succ_ne s addr
  unfold memWriteWord
  simp only [memRead_memWrite, memWrite_index]
  split
  · next h1 =>
    have : s.index at_ ≠ s.index addr := fun h => hne (h1.symm.trans h)
    simp [this]
  · next h1 => rfl

/-- push16 stores its word at SP - 2 and nothing else (spec/20_memory.md R76). -/
theorem storesWord_push16 (s : State) (w : Word) : StoresWord (s.sp - 2) w s (push16 w s) := by
  intro at_
  have e : s.sp - 2 + 1 = s.sp - 1 := by bv_omega
  show memRead (memWrite (s.sp - 2) (lowByte w) (memWrite (s.sp - 1) (highByte w) s)) at_ = _
  simp only [memRead_memWrite, memWrite_index, e]

/-- A word stored puts its low byte at the address. -/
theorem StoresWord.low {addr w : Word} {s t : State} (h : StoresWord addr w s t) : memRead t addr = lowByte w := by
  rw [h, if_pos rfl]

/-- A word stored puts its high byte at the next address. -/
theorem StoresWord.high {addr w : Word} {s t : State} (h : StoresWord addr w s t) :
    memRead t (addr + 1) = highByte w := by
  rw [h, if_neg (index_succ_ne s addr), if_pos rfl]

/-! ## Stores to a list of addresses -/

theorem StoresOnlyAt.mono {p q : List Word} {s t : State} (h : StoresOnlyAt p s t) (hpq : p ⊆ q) :
    StoresOnlyAt q s t := fun addr ha => h addr fun a hp => ha a (hpq hp)

/-- A change outside memory and the parameters after the stores. -/
theorem StoresOnlyAt.congr {p : List Word} {s t u : State} (h : StoresOnlyAt p s t) (hm : u.mem = t.mem)
    (hc : u.cfg = t.cfg) : StoresOnlyAt p s u := fun addr ha => (memRead_congr hm hc addr).trans (h addr ha)

/-- A state with the same memory and parameters stores nowhere. -/
theorem storesOnlyAt_of_same {s t : State} (hm : t.mem = s.mem) (hc : t.cfg = s.cfg) (p : List Word) :
    StoresOnlyAt p s t := fun addr _ => memRead_congr hm hc addr

theorem StoresByte.onlyAt {addr : Word} {v : Byte} {s t : State} (h : StoresByte addr v s t) :
    StoresOnlyAt [addr] s t := fun at_ ha => by rw [h, if_neg (ha addr (by simp))]

theorem StoresWord.onlyAt {addr w : Word} {s t : State} (h : StoresWord addr w s t) :
    StoresOnlyAt [addr, addr + 1] s t := fun at_ ha => by
  rw [h, if_neg (ha addr (by simp)), if_neg (ha (addr + 1) (by simp))]

/-- push16 stores at SP - 1 and SP - 2 only (spec/20_memory.md R76). -/
theorem storesOnlyAt_push16 (s : State) (w : Word) : StoresOnlyAt s.pushAddresses s (push16 w s) := by
  have e : s.sp - 2 + 1 = s.sp - 1 := by bv_omega
  have h := (storesWord_push16 s w).onlyAt
  rw [e] at h
  exact h.mono (by simp [State.pushAddresses])

/-! ## Bytes and words (spec/00_scope.md R13, spec/10_state.md R22) -/

theorem joinBytes_toNat (hi lo : Byte) : (joinBytes hi lo).toNat = hi.toNat * 256 + lo.toNat := by
  unfold joinBytes
  rw [BitVec.toNat_append, ← Nat.shiftLeft_add_eq_or_of_lt lo.isLt, Nat.shiftLeft_eq]

theorem lowByte_toNat (w : Word) : (lowByte w).toNat = w.toNat % 256 := by
  simp [lowByte, BitVec.extractLsb'_toNat]

theorem highByte_toNat (w : Word) : (highByte w).toNat = w.toNat / 256 := by
  have := w.isLt
  simp only [highByte, BitVec.extractLsb'_toNat, Nat.shiftRight_eq_div_pow]
  omega

@[simp] theorem lowByte_joinBytes (hi lo : Byte) : lowByte (joinBytes hi lo) = lo := by
  have := lo.isLt
  apply BitVec.eq_of_toNat_eq
  rw [lowByte_toNat, joinBytes_toNat]
  omega

@[simp] theorem highByte_joinBytes (hi lo : Byte) : highByte (joinBytes hi lo) = hi := by
  have := lo.isLt
  apply BitVec.eq_of_toNat_eq
  rw [highByte_toNat, joinBytes_toNat]
  omega

/-- `hi(w) ++ lo(w) = w` (spec/10_state.md R22). -/
@[simp] theorem joinBytes_high_low (w : Word) : joinBytes (highByte w) (lowByte w) = w := by
  apply BitVec.eq_of_toNat_eq
  rw [joinBytes_toNat, highByte_toNat, lowByte_toNat]
  omega

end Sys2Proof.Machine
end

