-- ==== Sys2Proof/Laws/Ops.lean ====
section
/-! SUPPORT. What each shared operation leaves alone, once each, and how frames compose; a proof about an instruction
cites these and unfolds nothing. -/

namespace Sys2Proof.Machine

/-! ## The next address -/

@[simp] theorem nextAddress_zero (s : State) : s.nextAddress 0 = s.pc := by simp [State.nextAddress]
@[simp] theorem nextAddress_one (s : State) : s.nextAddress 1 = s.pc + 1 := rfl
@[simp] theorem nextAddress_two (s : State) : s.nextAddress 2 = s.pc + 2 := rfl

/-! ## Frames compose -/

theorem UnchangedExcept.refl (changed : List Part) (s : State) : UnchangedExcept changed s s :=
  ⟨fun _ _ => rfl, fun _ => rfl, fun _ => rfl, fun _ => rfl, fun _ => rfl, fun _ => rfl, fun _ => rfl, fun _ => rfl,
    fun _ => rfl, fun _ _ => rfl, fun _ => rfl, fun _ => rfl, fun _ => rfl, rfl⟩

/-- A longer list of parts says less. -/
theorem UnchangedExcept.mono {p q : List Part} {s t : State} (h : UnchangedExcept p s t) (hpq : p ⊆ q) :
    UnchangedExcept q s t := by
  obtain ⟨h1, h2, h3, h4, h5, h6, h7, h8, h9, h10, h11, h12, h13, h14⟩ := h
  exact ⟨fun r hr => h1 r fun hp => hr (hpq hp), fun hx => h2 fun hp => hx (hpq hp), fun hx => h3 fun hp => hx (hpq hp),
    fun hx => h4 fun hp => hx (hpq hp), fun hx => h5 fun hp => hx (hpq hp), fun hx => h6 fun hp => hx (hpq hp),
    fun hx => h7 fun hp => hx (hpq hp), fun hx => h8 fun hp => hx (hpq hp), fun hx => h9 fun hp => hx (hpq hp),
    fun hx => h10 fun hp => hx (hpq hp), fun hx => h11 fun hp => hx (hpq hp), fun hx => h12 fun hp => hx (hpq hp),
    fun hx => h13 fun hp => hx (hpq hp), h14⟩

/-- One change after another changes what either changes. -/
theorem UnchangedExcept.trans {p q : List Part} {s t u : State} (h : UnchangedExcept p s t)
    (k : UnchangedExcept q t u) : UnchangedExcept (p ++ q) s u := by
  obtain ⟨h1, h2, h3, h4, h5, h6, h7, h8, h9, h10, h11, h12, h13, h14⟩ :=
    h.mono (List.subset_append_left p q)
  obtain ⟨k1, k2, k3, k4, k5, k6, k7, k8, k9, k10, k11, k12, k13, k14⟩ :=
    k.mono (List.subset_append_right p q)
  exact ⟨fun r hr => (k1 r hr).trans (h1 r hr), fun hx => (k2 hx).trans (h2 hx), fun hx => (k3 hx).trans (h3 hx),
    fun hx => (k4 hx).trans (h4 hx), fun hx => (k5 hx).trans (h5 hx), fun hx => (k6 hx).trans (h6 hx),
    fun hx => (k7 hx).trans (h7 hx), fun hx => (k8 hx).trans (h8 hx), fun hx => (k9 hx).trans (h9 hx),
    fun hx addr => (k10 hx addr).trans (h10 hx addr), fun hx => (k11 hx).trans (h11 hx),
    fun hx => (k12 hx).trans (h12 hx), fun hx => (k13 hx).trans (h13 hx), k14.trans h14⟩

/-! ## The frame of each operation -/

theorem frame_goTo (target : Word) (s : State) : UnchangedExcept [.pc] s (goTo target s) := by
  simp [UnchangedExcept]

theorem frame_advance (k : Nat) (s : State) : UnchangedExcept [.pc] s (advance k s) := frame_goTo _ s

theorem frame_preIncrement (s : State) : UnchangedExcept [.pc] s (preIncrement s) := by simp [UnchangedExcept]

theorem frame_memWrite (addr : Word) (v : Byte) (s : State) : UnchangedExcept [.mem] s (memWrite addr v s) := by
  simp [UnchangedExcept]

theorem frame_memWriteWord (addr w : Word) (s : State) : UnchangedExcept [.mem] s (memWriteWord addr w s) := by
  simp [UnchangedExcept]

theorem frame_setReg (r : Reg) (v : Byte) (s : State) : UnchangedExcept [.reg r] s (s.setReg r v) := by
  simp +contextual [UnchangedExcept, reg_setReg]

theorem frame_setPair (k : RegPair) (w : Word) (s : State) : UnchangedExcept (pairParts k) s (s.setPair k w) := by
  cases k <;> (refine ⟨fun r => ?_, ?_⟩ <;> [cases r; skip]) <;>
    simp [pairParts, State.setPair, State.setBC, State.setDE, State.setHL, State.reg] <;> intros <;> rfl

theorem frame_push16 (w : Word) (s : State) : UnchangedExcept [.sp, .mem] s (push16 w s) := by
  simp [UnchangedExcept]

theorem frame_dropWord (s : State) : UnchangedExcept [.sp] s (dropWord s) := by simp [UnchangedExcept]

theorem frame_recordIo (ev : IoEvent) (s : State) : UnchangedExcept [.io] s (recordIo ev s) := by
  simp [UnchangedExcept]

theorem frame_haltNormal (s : State) : UnchangedExcept [.run] s (haltNormal s) := by simp [UnchangedExcept]

theorem frame_raiseUnimplementedOpcode (op : Byte) (addr : Word) (s : State) :
    UnchangedExcept [.run, .fault] s (raiseUnimplementedOpcode op addr s) := by simp [UnchangedExcept]

theorem frame_setAccumulator (r : AluResult) (s : State) :
    UnchangedExcept (.reg .a :: flagParts) s (setAccumulator r s) := by
  refine ⟨fun q => ?_, ?_⟩
  · cases q <;> simp [flagParts, State.reg]
  · simp [flagParts]

theorem frame_setFlagsOnly (r : AluResult) (s : State) : UnchangedExcept flagParts s (setFlagsOnly r s) := by
  simp [UnchangedExcept, flagParts]

theorem frame_setRotated (v : Byte) (cy : Bool) (s : State) : UnchangedExcept [.reg .a, .cy] s (setRotated v cy s) := by
  refine ⟨fun q => ?_, ?_⟩
  · cases q <;> simp [State.reg]
  · simp

end Sys2Proof.Machine
end

