-- ==== Sys2Proof/Laws/PerInstr.lean ====
section
/-! SUPPORT. One fact per constructor of Instr, about the instruction as syntax: its encoding begins with its opcode
byte, has the length that spec/30_encoding.md R92 gives that byte, and that byte is documented exactly when the
instruction is well formed (R105). -/

namespace Sys2Proof.Laws.OpcodeByte

/-- The encoding of `i` is its opcode byte and then as many operand bytes as R92 gives that byte (none for an
undocumented byte), and the opcode byte is a documented one exactly when `i` is well formed. -/
def Statement (i : Instr) : Prop :=
  (encode i).head? = some i.opcode ∧ (encode i).length = operandCount i.opcode + 1 ∧
    documented i.opcode = i.wellFormed

theorem nop : Statement .nop := ⟨rfl, rfl, rfl⟩
theorem lxiB (d16 : Word) : Statement (.lxiB d16) := ⟨rfl, congrArg (· + 1) (by decide : 2 = operandCount 0b00000001), rfl⟩
theorem staxB : Statement .staxB := ⟨rfl, rfl, rfl⟩
theorem inxB : Statement .inxB := ⟨rfl, rfl, rfl⟩
theorem inrB : Statement .inrB := ⟨rfl, rfl, rfl⟩
theorem dcrB : Statement .dcrB := ⟨rfl, rfl, rfl⟩
theorem mviB (d8 : Byte) : Statement (.mviB d8) := ⟨rfl, congrArg (· + 1) (by decide : 1 = operandCount 0b00000110), rfl⟩
theorem rlc : Statement .rlc := ⟨rfl, rfl, rfl⟩
theorem undocumented08 : Statement .undocumented08 := ⟨rfl, rfl, rfl⟩
theorem dadB : Statement .dadB := ⟨rfl, rfl, rfl⟩
theorem ldaxB : Statement .ldaxB := ⟨rfl, rfl, rfl⟩
theorem dcxB : Statement .dcxB := ⟨rfl, rfl, rfl⟩
theorem inrC : Statement .inrC := ⟨rfl, rfl, rfl⟩
theorem dcrC : Statement .dcrC := ⟨rfl, rfl, rfl⟩
theorem mviC (d8 : Byte) : Statement (.mviC d8) := ⟨rfl, congrArg (· + 1) (by decide : 1 = operandCount 0b00001110), rfl⟩
theorem rrc : Statement .rrc := ⟨rfl, rfl, rfl⟩
theorem undocumented10 : Statement .undocumented10 := ⟨rfl, rfl, rfl⟩
theorem lxiD (d16 : Word) : Statement (.lxiD d16) := ⟨rfl, congrArg (· + 1) (by decide : 2 = operandCount 0b00010001), rfl⟩
theorem staxD : Statement .staxD := ⟨rfl, rfl, rfl⟩
theorem inxD : Statement .inxD := ⟨rfl, rfl, rfl⟩
theorem inrD : Statement .inrD := ⟨rfl, rfl, rfl⟩
theorem dcrD : Statement .dcrD := ⟨rfl, rfl, rfl⟩
theorem mviD (d8 : Byte) : Statement (.mviD d8) := ⟨rfl, congrArg (· + 1) (by decide : 1 = operandCount 0b00010110), rfl⟩
theorem ral : Statement .ral := ⟨rfl, rfl, rfl⟩
theorem undocumented18 : Statement .undocumented18 := ⟨rfl, rfl, rfl⟩
theorem dadD : Statement .dadD := ⟨rfl, rfl, rfl⟩
theorem ldaxD : Statement .ldaxD := ⟨rfl, rfl, rfl⟩
theorem dcxD : Statement .dcxD := ⟨rfl, rfl, rfl⟩
theorem inrE : Statement .inrE := ⟨rfl, rfl, rfl⟩
theorem dcrE : Statement .dcrE := ⟨rfl, rfl, rfl⟩
theorem mviE (d8 : Byte) : Statement (.mviE d8) := ⟨rfl, congrArg (· + 1) (by decide : 1 = operandCount 0b00011110), rfl⟩
theorem rar : Statement .rar := ⟨rfl, rfl, rfl⟩
theorem undocumented20 : Statement .undocumented20 := ⟨rfl, rfl, rfl⟩
theorem lxiH (d16 : Word) : Statement (.lxiH d16) := ⟨rfl, congrArg (· + 1) (by decide : 2 = operandCount 0b00100001), rfl⟩
theorem shld (a16 : Word) : Statement (.shld a16) := ⟨rfl, congrArg (· + 1) (by decide : 2 = operandCount 0b00100010), rfl⟩
theorem inxH : Statement .inxH := ⟨rfl, rfl, rfl⟩
theorem inrH : Statement .inrH := ⟨rfl, rfl, rfl⟩
theorem dcrH : Statement .dcrH := ⟨rfl, rfl, rfl⟩
theorem mviH (d8 : Byte) : Statement (.mviH d8) := ⟨rfl, congrArg (· + 1) (by decide : 1 = operandCount 0b00100110), rfl⟩
theorem daa : Statement .daa := ⟨rfl, rfl, rfl⟩
theorem undocumented28 : Statement .undocumented28 := ⟨rfl, rfl, rfl⟩
theorem dadH : Statement .dadH := ⟨rfl, rfl, rfl⟩
theorem lhld (a16 : Word) : Statement (.lhld a16) := ⟨rfl, congrArg (· + 1) (by decide : 2 = operandCount 0b00101010), rfl⟩
theorem dcxH : Statement .dcxH := ⟨rfl, rfl, rfl⟩
theorem inrL : Statement .inrL := ⟨rfl, rfl, rfl⟩
theorem dcrL : Statement .dcrL := ⟨rfl, rfl, rfl⟩
theorem mviL (d8 : Byte) : Statement (.mviL d8) := ⟨rfl, congrArg (· + 1) (by decide : 1 = operandCount 0b00101110), rfl⟩
theorem cma : Statement .cma := ⟨rfl, rfl, rfl⟩
theorem undocumented30 : Statement .undocumented30 := ⟨rfl, rfl, rfl⟩
theorem lxiSp (d16 : Word) : Statement (.lxiSp d16) := ⟨rfl, congrArg (· + 1) (by decide : 2 = operandCount 0b00110001), rfl⟩
theorem sta (a16 : Word) : Statement (.sta a16) := ⟨rfl, congrArg (· + 1) (by decide : 2 = operandCount 0b00110010), rfl⟩
theorem inxSp : Statement .inxSp := ⟨rfl, rfl, rfl⟩
theorem inrM : Statement .inrM := ⟨rfl, rfl, rfl⟩
theorem dcrM : Statement .dcrM := ⟨rfl, rfl, rfl⟩
theorem mviM (d8 : Byte) : Statement (.mviM d8) := ⟨rfl, congrArg (· + 1) (by decide : 1 = operandCount 0b00110110), rfl⟩
theorem stc : Statement .stc := ⟨rfl, rfl, rfl⟩
theorem undocumented38 : Statement .undocumented38 := ⟨rfl, rfl, rfl⟩
theorem dadSp : Statement .dadSp := ⟨rfl, rfl, rfl⟩
theorem lda (a16 : Word) : Statement (.lda a16) := ⟨rfl, congrArg (· + 1) (by decide : 2 = operandCount 0b00111010), rfl⟩
theorem dcxSp : Statement .dcxSp := ⟨rfl, rfl, rfl⟩
theorem inrA : Statement .inrA := ⟨rfl, rfl, rfl⟩
theorem dcrA : Statement .dcrA := ⟨rfl, rfl, rfl⟩
theorem mviA (d8 : Byte) : Statement (.mviA d8) := ⟨rfl, congrArg (· + 1) (by decide : 1 = operandCount 0b00111110), rfl⟩
theorem cmc : Statement .cmc := ⟨rfl, rfl, rfl⟩
theorem movBB : Statement .movBB := ⟨rfl, rfl, rfl⟩
theorem movBC : Statement .movBC := ⟨rfl, rfl, rfl⟩
theorem movBD : Statement .movBD := ⟨rfl, rfl, rfl⟩
theorem movBE : Statement .movBE := ⟨rfl, rfl, rfl⟩
theorem movBH : Statement .movBH := ⟨rfl, rfl, rfl⟩
theorem movBL : Statement .movBL := ⟨rfl, rfl, rfl⟩
theorem movBM : Statement .movBM := ⟨rfl, rfl, rfl⟩
theorem movBA : Statement .movBA := ⟨rfl, rfl, rfl⟩
theorem movCB : Statement .movCB := ⟨rfl, rfl, rfl⟩
theorem movCC : Statement .movCC := ⟨rfl, rfl, rfl⟩
theorem movCD : Statement .movCD := ⟨rfl, rfl, rfl⟩
theorem movCE : Statement .movCE := ⟨rfl, rfl, rfl⟩
theorem movCH : Statement .movCH := ⟨rfl, rfl, rfl⟩
theorem movCL : Statement .movCL := ⟨rfl, rfl, rfl⟩
theorem movCM : Statement .movCM := ⟨rfl, rfl, rfl⟩
theorem movCA : Statement .movCA := ⟨rfl, rfl, rfl⟩
theorem movDB : Statement .movDB := ⟨rfl, rfl, rfl⟩
theorem movDC : Statement .movDC := ⟨rfl, rfl, rfl⟩
theorem movDD : Statement .movDD := ⟨rfl, rfl, rfl⟩
theorem movDE : Statement .movDE := ⟨rfl, rfl, rfl⟩
theorem movDH : Statement .movDH := ⟨rfl, rfl, rfl⟩
theorem movDL : Statement .movDL := ⟨rfl, rfl, rfl⟩
theorem movDM : Statement .movDM := ⟨rfl, rfl, rfl⟩
theorem movDA : Statement .movDA := ⟨rfl, rfl, rfl⟩
theorem movEB : Statement .movEB := ⟨rfl, rfl, rfl⟩
theorem movEC : Statement .movEC := ⟨rfl, rfl, rfl⟩
theorem movED : Statement .movED := ⟨rfl, rfl, rfl⟩
theorem movEE : Statement .movEE := ⟨rfl, rfl, rfl⟩
theorem movEH : Statement .movEH := ⟨rfl, rfl, rfl⟩
theorem movEL : Statement .movEL := ⟨rfl, rfl, rfl⟩
theorem movEM : Statement .movEM := ⟨rfl, rfl, rfl⟩
theorem movEA : Statement .movEA := ⟨rfl, rfl, rfl⟩
theorem movHB : Statement .movHB := ⟨rfl, rfl, rfl⟩
theorem movHC : Statement .movHC := ⟨rfl, rfl, rfl⟩
theorem movHD : Statement .movHD := ⟨rfl, rfl, rfl⟩
theorem movHE : Statement .movHE := ⟨rfl, rfl, rfl⟩
theorem movHH : Statement .movHH := ⟨rfl, rfl, rfl⟩
theorem movHL : Statement .movHL := ⟨rfl, rfl, rfl⟩
theorem movHM : Statement .movHM := ⟨rfl, rfl, rfl⟩
theorem movHA : Statement .movHA := ⟨rfl, rfl, rfl⟩
theorem movLB : Statement .movLB := ⟨rfl, rfl, rfl⟩
theorem movLC : Statement .movLC := ⟨rfl, rfl, rfl⟩
theorem movLD : Statement .movLD := ⟨rfl, rfl, rfl⟩
theorem movLE : Statement .movLE := ⟨rfl, rfl, rfl⟩
theorem movLH : Statement .movLH := ⟨rfl, rfl, rfl⟩
theorem movLL : Statement .movLL := ⟨rfl, rfl, rfl⟩
theorem movLM : Statement .movLM := ⟨rfl, rfl, rfl⟩
theorem movLA : Statement .movLA := ⟨rfl, rfl, rfl⟩
theorem movMB : Statement .movMB := ⟨rfl, rfl, rfl⟩
theorem movMC : Statement .movMC := ⟨rfl, rfl, rfl⟩
theorem movMD : Statement .movMD := ⟨rfl, rfl, rfl⟩
theorem movME : Statement .movME := ⟨rfl, rfl, rfl⟩
theorem movMH : Statement .movMH := ⟨rfl, rfl, rfl⟩
theorem movML : Statement .movML := ⟨rfl, rfl, rfl⟩
theorem hlt : Statement .hlt := ⟨rfl, rfl, rfl⟩
theorem movMA : Statement .movMA := ⟨rfl, rfl, rfl⟩
theorem movAB : Statement .movAB := ⟨rfl, rfl, rfl⟩
theorem movAC : Statement .movAC := ⟨rfl, rfl, rfl⟩
theorem movAD : Statement .movAD := ⟨rfl, rfl, rfl⟩
theorem movAE : Statement .movAE := ⟨rfl, rfl, rfl⟩
theorem movAH : Statement .movAH := ⟨rfl, rfl, rfl⟩
theorem movAL : Statement .movAL := ⟨rfl, rfl, rfl⟩
theorem movAM : Statement .movAM := ⟨rfl, rfl, rfl⟩
theorem movAA : Statement .movAA := ⟨rfl, rfl, rfl⟩
theorem addB : Statement .addB := ⟨rfl, rfl, rfl⟩
theorem addC : Statement .addC := ⟨rfl, rfl, rfl⟩
theorem addD : Statement .addD := ⟨rfl, rfl, rfl⟩
theorem addE : Statement .addE := ⟨rfl, rfl, rfl⟩
theorem addH : Statement .addH := ⟨rfl, rfl, rfl⟩
theorem addL : Statement .addL := ⟨rfl, rfl, rfl⟩
theorem addM : Statement .addM := ⟨rfl, rfl, rfl⟩
theorem addA : Statement .addA := ⟨rfl, rfl, rfl⟩
theorem adcB : Statement .adcB := ⟨rfl, rfl, rfl⟩
theorem adcC : Statement .adcC := ⟨rfl, rfl, rfl⟩
theorem adcD : Statement .adcD := ⟨rfl, rfl, rfl⟩
theorem adcE : Statement .adcE := ⟨rfl, rfl, rfl⟩
theorem adcH : Statement .adcH := ⟨rfl, rfl, rfl⟩
theorem adcL : Statement .adcL := ⟨rfl, rfl, rfl⟩
theorem adcM : Statement .adcM := ⟨rfl, rfl, rfl⟩
theorem adcA : Statement .adcA := ⟨rfl, rfl, rfl⟩
theorem subB : Statement .subB := ⟨rfl, rfl, rfl⟩
theorem subC : Statement .subC := ⟨rfl, rfl, rfl⟩
theorem subD : Statement .subD := ⟨rfl, rfl, rfl⟩
theorem subE : Statement .subE := ⟨rfl, rfl, rfl⟩
theorem subH : Statement .subH := ⟨rfl, rfl, rfl⟩
theorem subL : Statement .subL := ⟨rfl, rfl, rfl⟩
theorem subM : Statement .subM := ⟨rfl, rfl, rfl⟩
theorem subA : Statement .subA := ⟨rfl, rfl, rfl⟩
theorem sbbB : Statement .sbbB := ⟨rfl, rfl, rfl⟩
theorem sbbC : Statement .sbbC := ⟨rfl, rfl, rfl⟩
theorem sbbD : Statement .sbbD := ⟨rfl, rfl, rfl⟩
theorem sbbE : Statement .sbbE := ⟨rfl, rfl, rfl⟩
theorem sbbH : Statement .sbbH := ⟨rfl, rfl, rfl⟩
theorem sbbL : Statement .sbbL := ⟨rfl, rfl, rfl⟩
theorem sbbM : Statement .sbbM := ⟨rfl, rfl, rfl⟩
theorem sbbA : Statement .sbbA := ⟨rfl, rfl, rfl⟩
theorem anaB : Statement .anaB := ⟨rfl, rfl, rfl⟩
theorem anaC : Statement .anaC := ⟨rfl, rfl, rfl⟩
theorem anaD : Statement .anaD := ⟨rfl, rfl, rfl⟩
theorem anaE : Statement .anaE := ⟨rfl, rfl, rfl⟩
theorem anaH : Statement .anaH := ⟨rfl, rfl, rfl⟩
theorem anaL : Statement .anaL := ⟨rfl, rfl, rfl⟩
theorem anaM : Statement .anaM := ⟨rfl, rfl, rfl⟩
theorem anaA : Statement .anaA := ⟨rfl, rfl, rfl⟩
theorem xraB : Statement .xraB := ⟨rfl, rfl, rfl⟩
theorem xraC : Statement .xraC := ⟨rfl, rfl, rfl⟩
theorem xraD : Statement .xraD := ⟨rfl, rfl, rfl⟩
theorem xraE : Statement .xraE := ⟨rfl, rfl, rfl⟩
theorem xraH : Statement .xraH := ⟨rfl, rfl, rfl⟩
theorem xraL : Statement .xraL := ⟨rfl, rfl, rfl⟩
theorem xraM : Statement .xraM := ⟨rfl, rfl, rfl⟩
theorem xraA : Statement .xraA := ⟨rfl, rfl, rfl⟩
theorem oraB : Statement .oraB := ⟨rfl, rfl, rfl⟩
theorem oraC : Statement .oraC := ⟨rfl, rfl, rfl⟩
theorem oraD : Statement .oraD := ⟨rfl, rfl, rfl⟩
theorem oraE : Statement .oraE := ⟨rfl, rfl, rfl⟩
theorem oraH : Statement .oraH := ⟨rfl, rfl, rfl⟩
theorem oraL : Statement .oraL := ⟨rfl, rfl, rfl⟩
theorem oraM : Statement .oraM := ⟨rfl, rfl, rfl⟩
theorem oraA : Statement .oraA := ⟨rfl, rfl, rfl⟩
theorem cmpB : Statement .cmpB := ⟨rfl, rfl, rfl⟩
theorem cmpC : Statement .cmpC := ⟨rfl, rfl, rfl⟩
theorem cmpD : Statement .cmpD := ⟨rfl, rfl, rfl⟩
theorem cmpE : Statement .cmpE := ⟨rfl, rfl, rfl⟩
theorem cmpH : Statement .cmpH := ⟨rfl, rfl, rfl⟩
theorem cmpL : Statement .cmpL := ⟨rfl, rfl, rfl⟩
theorem cmpM : Statement .cmpM := ⟨rfl, rfl, rfl⟩
theorem cmpA : Statement .cmpA := ⟨rfl, rfl, rfl⟩
theorem rnz : Statement .rnz := ⟨rfl, rfl, rfl⟩
theorem popB : Statement .popB := ⟨rfl, rfl, rfl⟩
theorem jnz (a16 : Word) : Statement (.jnz a16) := ⟨rfl, congrArg (· + 1) (by decide : 2 = operandCount 0b11000010), rfl⟩
theorem jmp (a16 : Word) : Statement (.jmp a16) := ⟨rfl, congrArg (· + 1) (by decide : 2 = operandCount 0b11000011), rfl⟩
theorem cnz (a16 : Word) : Statement (.cnz a16) := ⟨rfl, congrArg (· + 1) (by decide : 2 = operandCount 0b11000100), rfl⟩
theorem pushB : Statement .pushB := ⟨rfl, rfl, rfl⟩
theorem adi (d8 : Byte) : Statement (.adi d8) := ⟨rfl, congrArg (· + 1) (by decide : 1 = operandCount 0b11000110), rfl⟩
theorem rst0 : Statement .rst0 := ⟨rfl, rfl, rfl⟩
theorem rz : Statement .rz := ⟨rfl, rfl, rfl⟩
theorem ret : Statement .ret := ⟨rfl, rfl, rfl⟩
theorem jz (a16 : Word) : Statement (.jz a16) := ⟨rfl, congrArg (· + 1) (by decide : 2 = operandCount 0b11001010), rfl⟩
theorem undocumentedCB : Statement .undocumentedCB := ⟨rfl, rfl, rfl⟩
theorem cz (a16 : Word) : Statement (.cz a16) := ⟨rfl, congrArg (· + 1) (by decide : 2 = operandCount 0b11001100), rfl⟩
theorem call (a16 : Word) : Statement (.call a16) := ⟨rfl, congrArg (· + 1) (by decide : 2 = operandCount 0b11001101), rfl⟩
theorem aci (d8 : Byte) : Statement (.aci d8) := ⟨rfl, congrArg (· + 1) (by decide : 1 = operandCount 0b11001110), rfl⟩
theorem rst1 : Statement .rst1 := ⟨rfl, rfl, rfl⟩
theorem rnc : Statement .rnc := ⟨rfl, rfl, rfl⟩
theorem popD : Statement .popD := ⟨rfl, rfl, rfl⟩
theorem jnc (a16 : Word) : Statement (.jnc a16) := ⟨rfl, congrArg (· + 1) (by decide : 2 = operandCount 0b11010010), rfl⟩
theorem outPort (p8 : Byte) : Statement (.outPort p8) := ⟨rfl, congrArg (· + 1) (by decide : 1 = operandCount 0b11010011), rfl⟩
theorem cnc (a16 : Word) : Statement (.cnc a16) := ⟨rfl, congrArg (· + 1) (by decide : 2 = operandCount 0b11010100), rfl⟩
theorem pushD : Statement .pushD := ⟨rfl, rfl, rfl⟩
theorem sui (d8 : Byte) : Statement (.sui d8) := ⟨rfl, congrArg (· + 1) (by decide : 1 = operandCount 0b11010110), rfl⟩
theorem rst2 : Statement .rst2 := ⟨rfl, rfl, rfl⟩
theorem rc : Statement .rc := ⟨rfl, rfl, rfl⟩
theorem undocumentedD9 : Statement .undocumentedD9 := ⟨rfl, rfl, rfl⟩
theorem jc (a16 : Word) : Statement (.jc a16) := ⟨rfl, congrArg (· + 1) (by decide : 2 = operandCount 0b11011010), rfl⟩
theorem inPort (p8 : Byte) : Statement (.inPort p8) := ⟨rfl, congrArg (· + 1) (by decide : 1 = operandCount 0b11011011), rfl⟩
theorem cc (a16 : Word) : Statement (.cc a16) := ⟨rfl, congrArg (· + 1) (by decide : 2 = operandCount 0b11011100), rfl⟩
theorem undocumentedDD : Statement .undocumentedDD := ⟨rfl, rfl, rfl⟩
theorem sbi (d8 : Byte) : Statement (.sbi d8) := ⟨rfl, congrArg (· + 1) (by decide : 1 = operandCount 0b11011110), rfl⟩
theorem rst3 : Statement .rst3 := ⟨rfl, rfl, rfl⟩
theorem rpo : Statement .rpo := ⟨rfl, rfl, rfl⟩
theorem popH : Statement .popH := ⟨rfl, rfl, rfl⟩
theorem jpo (a16 : Word) : Statement (.jpo a16) := ⟨rfl, congrArg (· + 1) (by decide : 2 = operandCount 0b11100010), rfl⟩
theorem xthl : Statement .xthl := ⟨rfl, rfl, rfl⟩
theorem cpo (a16 : Word) : Statement (.cpo a16) := ⟨rfl, congrArg (· + 1) (by decide : 2 = operandCount 0b11100100), rfl⟩
theorem pushH : Statement .pushH := ⟨rfl, rfl, rfl⟩
theorem ani (d8 : Byte) : Statement (.ani d8) := ⟨rfl, congrArg (· + 1) (by decide : 1 = operandCount 0b11100110), rfl⟩
theorem rst4 : Statement .rst4 := ⟨rfl, rfl, rfl⟩
theorem rpe : Statement .rpe := ⟨rfl, rfl, rfl⟩
theorem pchl : Statement .pchl := ⟨rfl, rfl, rfl⟩
theorem jpe (a16 : Word) : Statement (.jpe a16) := ⟨rfl, congrArg (· + 1) (by decide : 2 = operandCount 0b11101010), rfl⟩
theorem xchg : Statement .xchg := ⟨rfl, rfl, rfl⟩
theorem cpe (a16 : Word) : Statement (.cpe a16) := ⟨rfl, congrArg (· + 1) (by decide : 2 = operandCount 0b11101100), rfl⟩
theorem undocumentedED : Statement .undocumentedED := ⟨rfl, rfl, rfl⟩
theorem xri (d8 : Byte) : Statement (.xri d8) := ⟨rfl, congrArg (· + 1) (by decide : 1 = operandCount 0b11101110), rfl⟩
theorem rst5 : Statement .rst5 := ⟨rfl, rfl, rfl⟩
theorem rp : Statement .rp := ⟨rfl, rfl, rfl⟩
theorem popPsw : Statement .popPsw := ⟨rfl, rfl, rfl⟩
theorem jp (a16 : Word) : Statement (.jp a16) := ⟨rfl, congrArg (· + 1) (by decide : 2 = operandCount 0b11110010), rfl⟩
theorem di : Statement .di := ⟨rfl, rfl, rfl⟩
theorem cp (a16 : Word) : Statement (.cp a16) := ⟨rfl, congrArg (· + 1) (by decide : 2 = operandCount 0b11110100), rfl⟩
theorem pushPsw : Statement .pushPsw := ⟨rfl, rfl, rfl⟩
theorem ori (d8 : Byte) : Statement (.ori d8) := ⟨rfl, congrArg (· + 1) (by decide : 1 = operandCount 0b11110110), rfl⟩
theorem rst6 : Statement .rst6 := ⟨rfl, rfl, rfl⟩
theorem rm : Statement .rm := ⟨rfl, rfl, rfl⟩
theorem sphl : Statement .sphl := ⟨rfl, rfl, rfl⟩
theorem jm (a16 : Word) : Statement (.jm a16) := ⟨rfl, congrArg (· + 1) (by decide : 2 = operandCount 0b11111010), rfl⟩
theorem ei : Statement .ei := ⟨rfl, rfl, rfl⟩
theorem cm (a16 : Word) : Statement (.cm a16) := ⟨rfl, congrArg (· + 1) (by decide : 2 = operandCount 0b11111100), rfl⟩
theorem undocumentedFD : Statement .undocumentedFD := ⟨rfl, rfl, rfl⟩
theorem cpi (d8 : Byte) : Statement (.cpi d8) := ⟨rfl, congrArg (· + 1) (by decide : 1 = operandCount 0b11111110), rfl⟩
theorem rst7 : Statement .rst7 := ⟨rfl, rfl, rfl⟩

end Sys2Proof.Laws.OpcodeByte
end

