-- ==== Sys2Proof/Tests/Slice0.lean ====
section
/-! SUPPORT. Tests: every opcode byte decoded from its bits as the spec writes them, ill-formed terms refused, single
steps with the expected values of spec/95_test_vectors.md (the V number stands beside each), and one witness for each
statement of Obligations.lean that has hypotheses. -/

namespace Sys2Proof.Tests
open Sys2Proof.Machine

/-! ## Decoding (spec/30_encoding.md R98, R100 to R105; the `encoding` bits of spec/opcode_table.json) -/

theorem test_decode_row_0 :
    decode [0b00000000, 0x34, 0x12] = .ok (.nop, [0x34, 0x12]) ∧
    decode [0b00000001, 0x34, 0x12] = .ok (.lxiB 0x1234, []) ∧
    decode [0b00000010, 0x34, 0x12] = .ok (.staxB, [0x34, 0x12]) ∧
    decode [0b00000011, 0x34, 0x12] = .ok (.inxB, [0x34, 0x12]) ∧
    decode [0b00000100, 0x34, 0x12] = .ok (.inrB, [0x34, 0x12]) ∧
    decode [0b00000101, 0x34, 0x12] = .ok (.dcrB, [0x34, 0x12]) ∧
    decode [0b00000110, 0x34, 0x12] = .ok (.mviB 0x34, [0x12]) ∧
    decode [0b00000111, 0x34, 0x12] = .ok (.rlc, [0x34, 0x12]) ∧
    decode [0b00001000, 0x34, 0x12] = .ok (.undocumented08, [0x34, 0x12]) ∧
    decode [0b00001001, 0x34, 0x12] = .ok (.dadB, [0x34, 0x12]) ∧
    decode [0b00001010, 0x34, 0x12] = .ok (.ldaxB, [0x34, 0x12]) ∧
    decode [0b00001011, 0x34, 0x12] = .ok (.dcxB, [0x34, 0x12]) ∧
    decode [0b00001100, 0x34, 0x12] = .ok (.inrC, [0x34, 0x12]) ∧
    decode [0b00001101, 0x34, 0x12] = .ok (.dcrC, [0x34, 0x12]) ∧
    decode [0b00001110, 0x34, 0x12] = .ok (.mviC 0x34, [0x12]) ∧
    decode [0b00001111, 0x34, 0x12] = .ok (.rrc, [0x34, 0x12]) :=
  ⟨rfl, rfl, rfl, rfl, rfl, rfl, rfl, rfl, rfl, rfl, rfl, rfl, rfl, rfl, rfl, rfl⟩

theorem test_decode_row_1 :
    decode [0b00010000, 0x34, 0x12] = .ok (.undocumented10, [0x34, 0x12]) ∧
    decode [0b00010001, 0x34, 0x12] = .ok (.lxiD 0x1234, []) ∧
    decode [0b00010010, 0x34, 0x12] = .ok (.staxD, [0x34, 0x12]) ∧
    decode [0b00010011, 0x34, 0x12] = .ok (.inxD, [0x34, 0x12]) ∧
    decode [0b00010100, 0x34, 0x12] = .ok (.inrD, [0x34, 0x12]) ∧
    decode [0b00010101, 0x34, 0x12] = .ok (.dcrD, [0x34, 0x12]) ∧
    decode [0b00010110, 0x34, 0x12] = .ok (.mviD 0x34, [0x12]) ∧
    decode [0b00010111, 0x34, 0x12] = .ok (.ral, [0x34, 0x12]) ∧
    decode [0b00011000, 0x34, 0x12] = .ok (.undocumented18, [0x34, 0x12]) ∧
    decode [0b00011001, 0x34, 0x12] = .ok (.dadD, [0x34, 0x12]) ∧
    decode [0b00011010, 0x34, 0x12] = .ok (.ldaxD, [0x34, 0x12]) ∧
    decode [0b00011011, 0x34, 0x12] = .ok (.dcxD, [0x34, 0x12]) ∧
    decode [0b00011100, 0x34, 0x12] = .ok (.inrE, [0x34, 0x12]) ∧
    decode [0b00011101, 0x34, 0x12] = .ok (.dcrE, [0x34, 0x12]) ∧
    decode [0b00011110, 0x34, 0x12] = .ok (.mviE 0x34, [0x12]) ∧
    decode [0b00011111, 0x34, 0x12] = .ok (.rar, [0x34, 0x12]) :=
  ⟨rfl, rfl, rfl, rfl, rfl, rfl, rfl, rfl, rfl, rfl, rfl, rfl, rfl, rfl, rfl, rfl⟩

theorem test_decode_row_2 :
    decode [0b00100000, 0x34, 0x12] = .ok (.undocumented20, [0x34, 0x12]) ∧
    decode [0b00100001, 0x34, 0x12] = .ok (.lxiH 0x1234, []) ∧
    decode [0b00100010, 0x34, 0x12] = .ok (.shld 0x1234, []) ∧
    decode [0b00100011, 0x34, 0x12] = .ok (.inxH, [0x34, 0x12]) ∧
    decode [0b00100100, 0x34, 0x12] = .ok (.inrH, [0x34, 0x12]) ∧
    decode [0b00100101, 0x34, 0x12] = .ok (.dcrH, [0x34, 0x12]) ∧
    decode [0b00100110, 0x34, 0x12] = .ok (.mviH 0x34, [0x12]) ∧
    decode [0b00100111, 0x34, 0x12] = .ok (.daa, [0x34, 0x12]) ∧
    decode [0b00101000, 0x34, 0x12] = .ok (.undocumented28, [0x34, 0x12]) ∧
    decode [0b00101001, 0x34, 0x12] = .ok (.dadH, [0x34, 0x12]) ∧
    decode [0b00101010, 0x34, 0x12] = .ok (.lhld 0x1234, []) ∧
    decode [0b00101011, 0x34, 0x12] = .ok (.dcxH, [0x34, 0x12]) ∧
    decode [0b00101100, 0x34, 0x12] = .ok (.inrL, [0x34, 0x12]) ∧
    decode [0b00101101, 0x34, 0x12] = .ok (.dcrL, [0x34, 0x12]) ∧
    decode [0b00101110, 0x34, 0x12] = .ok (.mviL 0x34, [0x12]) ∧
    decode [0b00101111, 0x34, 0x12] = .ok (.cma, [0x34, 0x12]) :=
  ⟨rfl, rfl, rfl, rfl, rfl, rfl, rfl, rfl, rfl, rfl, rfl, rfl, rfl, rfl, rfl, rfl⟩

theorem test_decode_row_3 :
    decode [0b00110000, 0x34, 0x12] = .ok (.undocumented30, [0x34, 0x12]) ∧
    decode [0b00110001, 0x34, 0x12] = .ok (.lxiSp 0x1234, []) ∧
    decode [0b00110010, 0x34, 0x12] = .ok (.sta 0x1234, []) ∧
    decode [0b00110011, 0x34, 0x12] = .ok (.inxSp, [0x34, 0x12]) ∧
    decode [0b00110100, 0x34, 0x12] = .ok (.inrM, [0x34, 0x12]) ∧
    decode [0b00110101, 0x34, 0x12] = .ok (.dcrM, [0x34, 0x12]) ∧
    decode [0b00110110, 0x34, 0x12] = .ok (.mviM 0x34, [0x12]) ∧
    decode [0b00110111, 0x34, 0x12] = .ok (.stc, [0x34, 0x12]) ∧
    decode [0b00111000, 0x34, 0x12] = .ok (.undocumented38, [0x34, 0x12]) ∧
    decode [0b00111001, 0x34, 0x12] = .ok (.dadSp, [0x34, 0x12]) ∧
    decode [0b00111010, 0x34, 0x12] = .ok (.lda 0x1234, []) ∧
    decode [0b00111011, 0x34, 0x12] = .ok (.dcxSp, [0x34, 0x12]) ∧
    decode [0b00111100, 0x34, 0x12] = .ok (.inrA, [0x34, 0x12]) ∧
    decode [0b00111101, 0x34, 0x12] = .ok (.dcrA, [0x34, 0x12]) ∧
    decode [0b00111110, 0x34, 0x12] = .ok (.mviA 0x34, [0x12]) ∧
    decode [0b00111111, 0x34, 0x12] = .ok (.cmc, [0x34, 0x12]) :=
  ⟨rfl, rfl, rfl, rfl, rfl, rfl, rfl, rfl, rfl, rfl, rfl, rfl, rfl, rfl, rfl, rfl⟩

theorem test_decode_row_4 :
    decode [0b01000000, 0x34, 0x12] = .ok (.movBB, [0x34, 0x12]) ∧
    decode [0b01000001, 0x34, 0x12] = .ok (.movBC, [0x34, 0x12]) ∧
    decode [0b01000010, 0x34, 0x12] = .ok (.movBD, [0x34, 0x12]) ∧
    decode [0b01000011, 0x34, 0x12] = .ok (.movBE, [0x34, 0x12]) ∧
    decode [0b01000100, 0x34, 0x12] = .ok (.movBH, [0x34, 0x12]) ∧
    decode [0b01000101, 0x34, 0x12] = .ok (.movBL, [0x34, 0x12]) ∧
    decode [0b01000110, 0x34, 0x12] = .ok (.movBM, [0x34, 0x12]) ∧
    decode [0b01000111, 0x34, 0x12] = .ok (.movBA, [0x34, 0x12]) ∧
    decode [0b01001000, 0x34, 0x12] = .ok (.movCB, [0x34, 0x12]) ∧
    decode [0b01001001, 0x34, 0x12] = .ok (.movCC, [0x34, 0x12]) ∧
    decode [0b01001010, 0x34, 0x12] = .ok (.movCD, [0x34, 0x12]) ∧
    decode [0b01001011, 0x34, 0x12] = .ok (.movCE, [0x34, 0x12]) ∧
    decode [0b01001100, 0x34, 0x12] = .ok (.movCH, [0x34, 0x12]) ∧
    decode [0b01001101, 0x34, 0x12] = .ok (.movCL, [0x34, 0x12]) ∧
    decode [0b01001110, 0x34, 0x12] = .ok (.movCM, [0x34, 0x12]) ∧
    decode [0b01001111, 0x34, 0x12] = .ok (.movCA, [0x34, 0x12]) :=
  ⟨rfl, rfl, rfl, rfl, rfl, rfl, rfl, rfl, rfl, rfl, rfl, rfl, rfl, rfl, rfl, rfl⟩

theorem test_decode_row_5 :
    decode [0b01010000, 0x34, 0x12] = .ok (.movDB, [0x34, 0x12]) ∧
    decode [0b01010001, 0x34, 0x12] = .ok (.movDC, [0x34, 0x12]) ∧
    decode [0b01010010, 0x34, 0x12] = .ok (.movDD, [0x34, 0x12]) ∧
    decode [0b01010011, 0x34, 0x12] = .ok (.movDE, [0x34, 0x12]) ∧
    decode [0b01010100, 0x34, 0x12] = .ok (.movDH, [0x34, 0x12]) ∧
    decode [0b01010101, 0x34, 0x12] = .ok (.movDL, [0x34, 0x12]) ∧
    decode [0b01010110, 0x34, 0x12] = .ok (.movDM, [0x34, 0x12]) ∧
    decode [0b01010111, 0x34, 0x12] = .ok (.movDA, [0x34, 0x12]) ∧
    decode [0b01011000, 0x34, 0x12] = .ok (.movEB, [0x34, 0x12]) ∧
    decode [0b01011001, 0x34, 0x12] = .ok (.movEC, [0x34, 0x12]) ∧
    decode [0b01011010, 0x34, 0x12] = .ok (.movED, [0x34, 0x12]) ∧
    decode [0b01011011, 0x34, 0x12] = .ok (.movEE, [0x34, 0x12]) ∧
    decode [0b01011100, 0x34, 0x12] = .ok (.movEH, [0x34, 0x12]) ∧
    decode [0b01011101, 0x34, 0x12] = .ok (.movEL, [0x34, 0x12]) ∧
    decode [0b01011110, 0x34, 0x12] = .ok (.movEM, [0x34, 0x12]) ∧
    decode [0b01011111, 0x34, 0x12] = .ok (.movEA, [0x34, 0x12]) :=
  ⟨rfl, rfl, rfl, rfl, rfl, rfl, rfl, rfl, rfl, rfl, rfl, rfl, rfl, rfl, rfl, rfl⟩

theorem test_decode_row_6 :
    decode [0b01100000, 0x34, 0x12] = .ok (.movHB, [0x34, 0x12]) ∧
    decode [0b01100001, 0x34, 0x12] = .ok (.movHC, [0x34, 0x12]) ∧
    decode [0b01100010, 0x34, 0x12] = .ok (.movHD, [0x34, 0x12]) ∧
    decode [0b01100011, 0x34, 0x12] = .ok (.movHE, [0x34, 0x12]) ∧
    decode [0b01100100, 0x34, 0x12] = .ok (.movHH, [0x34, 0x12]) ∧
    decode [0b01100101, 0x34, 0x12] = .ok (.movHL, [0x34, 0x12]) ∧
    decode [0b01100110, 0x34, 0x12] = .ok (.movHM, [0x34, 0x12]) ∧
    decode [0b01100111, 0x34, 0x12] = .ok (.movHA, [0x34, 0x12]) ∧
    decode [0b01101000, 0x34, 0x12] = .ok (.movLB, [0x34, 0x12]) ∧
    decode [0b01101001, 0x34, 0x12] = .ok (.movLC, [0x34, 0x12]) ∧
    decode [0b01101010, 0x34, 0x12] = .ok (.movLD, [0x34, 0x12]) ∧
    decode [0b01101011, 0x34, 0x12] = .ok (.movLE, [0x34, 0x12]) ∧
    decode [0b01101100, 0x34, 0x12] = .ok (.movLH, [0x34, 0x12]) ∧
    decode [0b01101101, 0x34, 0x12] = .ok (.movLL, [0x34, 0x12]) ∧
    decode [0b01101110, 0x34, 0x12] = .ok (.movLM, [0x34, 0x12]) ∧
    decode [0b01101111, 0x34, 0x12] = .ok (.movLA, [0x34, 0x12]) :=
  ⟨rfl, rfl, rfl, rfl, rfl, rfl, rfl, rfl, rfl, rfl, rfl, rfl, rfl, rfl, rfl, rfl⟩

theorem test_decode_row_7 :
    decode [0b01110000, 0x34, 0x12] = .ok (.movMB, [0x34, 0x12]) ∧
    decode [0b01110001, 0x34, 0x12] = .ok (.movMC, [0x34, 0x12]) ∧
    decode [0b01110010, 0x34, 0x12] = .ok (.movMD, [0x34, 0x12]) ∧
    decode [0b01110011, 0x34, 0x12] = .ok (.movME, [0x34, 0x12]) ∧
    decode [0b01110100, 0x34, 0x12] = .ok (.movMH, [0x34, 0x12]) ∧
    decode [0b01110101, 0x34, 0x12] = .ok (.movML, [0x34, 0x12]) ∧
    decode [0b01110110, 0x34, 0x12] = .ok (.hlt, [0x34, 0x12]) ∧
    decode [0b01110111, 0x34, 0x12] = .ok (.movMA, [0x34, 0x12]) ∧
    decode [0b01111000, 0x34, 0x12] = .ok (.movAB, [0x34, 0x12]) ∧
    decode [0b01111001, 0x34, 0x12] = .ok (.movAC, [0x34, 0x12]) ∧
    decode [0b01111010, 0x34, 0x12] = .ok (.movAD, [0x34, 0x12]) ∧
    decode [0b01111011, 0x34, 0x12] = .ok (.movAE, [0x34, 0x12]) ∧
    decode [0b01111100, 0x34, 0x12] = .ok (.movAH, [0x34, 0x12]) ∧
    decode [0b01111101, 0x34, 0x12] = .ok (.movAL, [0x34, 0x12]) ∧
    decode [0b01111110, 0x34, 0x12] = .ok (.movAM, [0x34, 0x12]) ∧
    decode [0b01111111, 0x34, 0x12] = .ok (.movAA, [0x34, 0x12]) :=
  ⟨rfl, rfl, rfl, rfl, rfl, rfl, rfl, rfl, rfl, rfl, rfl, rfl, rfl, rfl, rfl, rfl⟩

theorem test_decode_row_8 :
    decode [0b10000000, 0x34, 0x12] = .ok (.addB, [0x34, 0x12]) ∧
    decode [0b10000001, 0x34, 0x12] = .ok (.addC, [0x34, 0x12]) ∧
    decode [0b10000010, 0x34, 0x12] = .ok (.addD, [0x34, 0x12]) ∧
    decode [0b10000011, 0x34, 0x12] = .ok (.addE, [0x34, 0x12]) ∧
    decode [0b10000100, 0x34, 0x12] = .ok (.addH, [0x34, 0x12]) ∧
    decode [0b10000101, 0x34, 0x12] = .ok (.addL, [0x34, 0x12]) ∧
    decode [0b10000110, 0x34, 0x12] = .ok (.addM, [0x34, 0x12]) ∧
    decode [0b10000111, 0x34, 0x12] = .ok (.addA, [0x34, 0x12]) ∧
    decode [0b10001000, 0x34, 0x12] = .ok (.adcB, [0x34, 0x12]) ∧
    decode [0b10001001, 0x34, 0x12] = .ok (.adcC, [0x34, 0x12]) ∧
    decode [0b10001010, 0x34, 0x12] = .ok (.adcD, [0x34, 0x12]) ∧
    decode [0b10001011, 0x34, 0x12] = .ok (.adcE, [0x34, 0x12]) ∧
    decode [0b10001100, 0x34, 0x12] = .ok (.adcH, [0x34, 0x12]) ∧
    decode [0b10001101, 0x34, 0x12] = .ok (.adcL, [0x34, 0x12]) ∧
    decode [0b10001110, 0x34, 0x12] = .ok (.adcM, [0x34, 0x12]) ∧
    decode [0b10001111, 0x34, 0x12] = .ok (.adcA, [0x34, 0x12]) :=
  ⟨rfl, rfl, rfl, rfl, rfl, rfl, rfl, rfl, rfl, rfl, rfl, rfl, rfl, rfl, rfl, rfl⟩

theorem test_decode_row_9 :
    decode [0b10010000, 0x34, 0x12] = .ok (.subB, [0x34, 0x12]) ∧
    decode [0b10010001, 0x34, 0x12] = .ok (.subC, [0x34, 0x12]) ∧
    decode [0b10010010, 0x34, 0x12] = .ok (.subD, [0x34, 0x12]) ∧
    decode [0b10010011, 0x34, 0x12] = .ok (.subE, [0x34, 0x12]) ∧
    decode [0b10010100, 0x34, 0x12] = .ok (.subH, [0x34, 0x12]) ∧
    decode [0b10010101, 0x34, 0x12] = .ok (.subL, [0x34, 0x12]) ∧
    decode [0b10010110, 0x34, 0x12] = .ok (.subM, [0x34, 0x12]) ∧
    decode [0b10010111, 0x34, 0x12] = .ok (.subA, [0x34, 0x12]) ∧
    decode [0b10011000, 0x34, 0x12] = .ok (.sbbB, [0x34, 0x12]) ∧
    decode [0b10011001, 0x34, 0x12] = .ok (.sbbC, [0x34, 0x12]) ∧
    decode [0b10011010, 0x34, 0x12] = .ok (.sbbD, [0x34, 0x12]) ∧
    decode [0b10011011, 0x34, 0x12] = .ok (.sbbE, [0x34, 0x12]) ∧
    decode [0b10011100, 0x34, 0x12] = .ok (.sbbH, [0x34, 0x12]) ∧
    decode [0b10011101, 0x34, 0x12] = .ok (.sbbL, [0x34, 0x12]) ∧
    decode [0b10011110, 0x34, 0x12] = .ok (.sbbM, [0x34, 0x12]) ∧
    decode [0b10011111, 0x34, 0x12] = .ok (.sbbA, [0x34, 0x12]) :=
  ⟨rfl, rfl, rfl, rfl, rfl, rfl, rfl, rfl, rfl, rfl, rfl, rfl, rfl, rfl, rfl, rfl⟩

theorem test_decode_row_A :
    decode [0b10100000, 0x34, 0x12] = .ok (.anaB, [0x34, 0x12]) ∧
    decode [0b10100001, 0x34, 0x12] = .ok (.anaC, [0x34, 0x12]) ∧
    decode [0b10100010, 0x34, 0x12] = .ok (.anaD, [0x34, 0x12]) ∧
    decode [0b10100011, 0x34, 0x12] = .ok (.anaE, [0x34, 0x12]) ∧
    decode [0b10100100, 0x34, 0x12] = .ok (.anaH, [0x34, 0x12]) ∧
    decode [0b10100101, 0x34, 0x12] = .ok (.anaL, [0x34, 0x12]) ∧
    decode [0b10100110, 0x34, 0x12] = .ok (.anaM, [0x34, 0x12]) ∧
    decode [0b10100111, 0x34, 0x12] = .ok (.anaA, [0x34, 0x12]) ∧
    decode [0b10101000, 0x34, 0x12] = .ok (.xraB, [0x34, 0x12]) ∧
    decode [0b10101001, 0x34, 0x12] = .ok (.xraC, [0x34, 0x12]) ∧
    decode [0b10101010, 0x34, 0x12] = .ok (.xraD, [0x34, 0x12]) ∧
    decode [0b10101011, 0x34, 0x12] = .ok (.xraE, [0x34, 0x12]) ∧
    decode [0b10101100, 0x34, 0x12] = .ok (.xraH, [0x34, 0x12]) ∧
    decode [0b10101101, 0x34, 0x12] = .ok (.xraL, [0x34, 0x12]) ∧
    decode [0b10101110, 0x34, 0x12] = .ok (.xraM, [0x34, 0x12]) ∧
    decode [0b10101111, 0x34, 0x12] = .ok (.xraA, [0x34, 0x12]) :=
  ⟨rfl, rfl, rfl, rfl, rfl, rfl, rfl, rfl, rfl, rfl, rfl, rfl, rfl, rfl, rfl, rfl⟩

theorem test_decode_row_B :
    decode [0b10110000, 0x34, 0x12] = .ok (.oraB, [0x34, 0x12]) ∧
    decode [0b10110001, 0x34, 0x12] = .ok (.oraC, [0x34, 0x12]) ∧
    decode [0b10110010, 0x34, 0x12] = .ok (.oraD, [0x34, 0x12]) ∧
    decode [0b10110011, 0x34, 0x12] = .ok (.oraE, [0x34, 0x12]) ∧
    decode [0b10110100, 0x34, 0x12] = .ok (.oraH, [0x34, 0x12]) ∧
    decode [0b10110101, 0x34, 0x12] = .ok (.oraL, [0x34, 0x12]) ∧
    decode [0b10110110, 0x34, 0x12] = .ok (.oraM, [0x34, 0x12]) ∧
    decode [0b10110111, 0x34, 0x12] = .ok (.oraA, [0x34, 0x12]) ∧
    decode [0b10111000, 0x34, 0x12] = .ok (.cmpB, [0x34, 0x12]) ∧
    decode [0b10111001, 0x34, 0x12] = .ok (.cmpC, [0x34, 0x12]) ∧
    decode [0b10111010, 0x34, 0x12] = .ok (.cmpD, [0x34, 0x12]) ∧
    decode [0b10111011, 0x34, 0x12] = .ok (.cmpE, [0x34, 0x12]) ∧
    decode [0b10111100, 0x34, 0x12] = .ok (.cmpH, [0x34, 0x12]) ∧
    decode [0b10111101, 0x34, 0x12] = .ok (.cmpL, [0x34, 0x12]) ∧
    decode [0b10111110, 0x34, 0x12] = .ok (.cmpM, [0x34, 0x12]) ∧
    decode [0b10111111, 0x34, 0x12] = .ok (.cmpA, [0x34, 0x12]) :=
  ⟨rfl, rfl, rfl, rfl, rfl, rfl, rfl, rfl, rfl, rfl, rfl, rfl, rfl, rfl, rfl, rfl⟩

theorem test_decode_row_C :
    decode [0b11000000, 0x34, 0x12] = .ok (.rnz, [0x34, 0x12]) ∧
    decode [0b11000001, 0x34, 0x12] = .ok (.popB, [0x34, 0x12]) ∧
    decode [0b11000010, 0x34, 0x12] = .ok (.jnz 0x1234, []) ∧
    decode [0b11000011, 0x34, 0x12] = .ok (.jmp 0x1234, []) ∧
    decode [0b11000100, 0x34, 0x12] = .ok (.cnz 0x1234, []) ∧
    decode [0b11000101, 0x34, 0x12] = .ok (.pushB, [0x34, 0x12]) ∧
    decode [0b11000110, 0x34, 0x12] = .ok (.adi 0x34, [0x12]) ∧
    decode [0b11000111, 0x34, 0x12] = .ok (.rst0, [0x34, 0x12]) ∧
    decode [0b11001000, 0x34, 0x12] = .ok (.rz, [0x34, 0x12]) ∧
    decode [0b11001001, 0x34, 0x12] = .ok (.ret, [0x34, 0x12]) ∧
    decode [0b11001010, 0x34, 0x12] = .ok (.jz 0x1234, []) ∧
    decode [0b11001011, 0x34, 0x12] = .ok (.undocumentedCB, [0x34, 0x12]) ∧
    decode [0b11001100, 0x34, 0x12] = .ok (.cz 0x1234, []) ∧
    decode [0b11001101, 0x34, 0x12] = .ok (.call 0x1234, []) ∧
    decode [0b11001110, 0x34, 0x12] = .ok (.aci 0x34, [0x12]) ∧
    decode [0b11001111, 0x34, 0x12] = .ok (.rst1, [0x34, 0x12]) :=
  ⟨rfl, rfl, rfl, rfl, rfl, rfl, rfl, rfl, rfl, rfl, rfl, rfl, rfl, rfl, rfl, rfl⟩

theorem test_decode_row_D :
    decode [0b11010000, 0x34, 0x12] = .ok (.rnc, [0x34, 0x12]) ∧
    decode [0b11010001, 0x34, 0x12] = .ok (.popD, [0x34, 0x12]) ∧
    decode [0b11010010, 0x34, 0x12] = .ok (.jnc 0x1234, []) ∧
    decode [0b11010011, 0x34, 0x12] = .ok (.outPort 0x34, [0x12]) ∧
    decode [0b11010100, 0x34, 0x12] = .ok (.cnc 0x1234, []) ∧
    decode [0b11010101, 0x34, 0x12] = .ok (.pushD, [0x34, 0x12]) ∧
    decode [0b11010110, 0x34, 0x12] = .ok (.sui 0x34, [0x12]) ∧
    decode [0b11010111, 0x34, 0x12] = .ok (.rst2, [0x34, 0x12]) ∧
    decode [0b11011000, 0x34, 0x12] = .ok (.rc, [0x34, 0x12]) ∧
    decode [0b11011001, 0x34, 0x12] = .ok (.undocumentedD9, [0x34, 0x12]) ∧
    decode [0b11011010, 0x34, 0x12] = .ok (.jc 0x1234, []) ∧
    decode [0b11011011, 0x34, 0x12] = .ok (.inPort 0x34, [0x12]) ∧
    decode [0b11011100, 0x34, 0x12] = .ok (.cc 0x1234, []) ∧
    decode [0b11011101, 0x34, 0x12] = .ok (.undocumentedDD, [0x34, 0x12]) ∧
    decode [0b11011110, 0x34, 0x12] = .ok (.sbi 0x34, [0x12]) ∧
    decode [0b11011111, 0x34, 0x12] = .ok (.rst3, [0x34, 0x12]) :=
  ⟨rfl, rfl, rfl, rfl, rfl, rfl, rfl, rfl, rfl, rfl, rfl, rfl, rfl, rfl, rfl, rfl⟩

theorem test_decode_row_E :
    decode [0b11100000, 0x34, 0x12] = .ok (.rpo, [0x34, 0x12]) ∧
    decode [0b11100001, 0x34, 0x12] = .ok (.popH, [0x34, 0x12]) ∧
    decode [0b11100010, 0x34, 0x12] = .ok (.jpo 0x1234, []) ∧
    decode [0b11100011, 0x34, 0x12] = .ok (.xthl, [0x34, 0x12]) ∧
    decode [0b11100100, 0x34, 0x12] = .ok (.cpo 0x1234, []) ∧
    decode [0b11100101, 0x34, 0x12] = .ok (.pushH, [0x34, 0x12]) ∧
    decode [0b11100110, 0x34, 0x12] = .ok (.ani 0x34, [0x12]) ∧
    decode [0b11100111, 0x34, 0x12] = .ok (.rst4, [0x34, 0x12]) ∧
    decode [0b11101000, 0x34, 0x12] = .ok (.rpe, [0x34, 0x12]) ∧
    decode [0b11101001, 0x34, 0x12] = .ok (.pchl, [0x34, 0x12]) ∧
    decode [0b11101010, 0x34, 0x12] = .ok (.jpe 0x1234, []) ∧
    decode [0b11101011, 0x34, 0x12] = .ok (.xchg, [0x34, 0x12]) ∧
    decode [0b11101100, 0x34, 0x12] = .ok (.cpe 0x1234, []) ∧
    decode [0b11101101, 0x34, 0x12] = .ok (.undocumentedED, [0x34, 0x12]) ∧
    decode [0b11101110, 0x34, 0x12] = .ok (.xri 0x34, [0x12]) ∧
    decode [0b11101111, 0x34, 0x12] = .ok (.rst5, [0x34, 0x12]) :=
  ⟨rfl, rfl, rfl, rfl, rfl, rfl, rfl, rfl, rfl, rfl, rfl, rfl, rfl, rfl, rfl, rfl⟩

theorem test_decode_row_F :
    decode [0b11110000, 0x34, 0x12] = .ok (.rp, [0x34, 0x12]) ∧
    decode [0b11110001, 0x34, 0x12] = .ok (.popPsw, [0x34, 0x12]) ∧
    decode [0b11110010, 0x34, 0x12] = .ok (.jp 0x1234, []) ∧
    decode [0b11110011, 0x34, 0x12] = .ok (.di, [0x34, 0x12]) ∧
    decode [0b11110100, 0x34, 0x12] = .ok (.cp 0x1234, []) ∧
    decode [0b11110101, 0x34, 0x12] = .ok (.pushPsw, [0x34, 0x12]) ∧
    decode [0b11110110, 0x34, 0x12] = .ok (.ori 0x34, [0x12]) ∧
    decode [0b11110111, 0x34, 0x12] = .ok (.rst6, [0x34, 0x12]) ∧
    decode [0b11111000, 0x34, 0x12] = .ok (.rm, [0x34, 0x12]) ∧
    decode [0b11111001, 0x34, 0x12] = .ok (.sphl, [0x34, 0x12]) ∧
    decode [0b11111010, 0x34, 0x12] = .ok (.jm 0x1234, []) ∧
    decode [0b11111011, 0x34, 0x12] = .ok (.ei, [0x34, 0x12]) ∧
    decode [0b11111100, 0x34, 0x12] = .ok (.cm 0x1234, []) ∧
    decode [0b11111101, 0x34, 0x12] = .ok (.undocumentedFD, [0x34, 0x12]) ∧
    decode [0b11111110, 0x34, 0x12] = .ok (.cpi 0x34, [0x12]) ∧
    decode [0b11111111, 0x34, 0x12] = .ok (.rst7, [0x34, 0x12]) :=
  ⟨rfl, rfl, rfl, rfl, rfl, rfl, rfl, rfl, rfl, rfl, rfl, rfl, rfl, rfl, rfl, rfl⟩

theorem test_decode_refuses :
    decode [] = .error .noOpcode ∧ decode [0b00000110] = .error (.operandBytesMissing 0x06) ∧
    decode [0b11000011, 0x34] = .error (.operandBytesMissing 0xC3) :=
  ⟨rfl, rfl, rfl⟩

theorem test_decodeTableWord :
    decodeTableWord 8 0x41 = some .movBC ∧ decodeTableWord 24 0x123401 = some (.lxiB 0x1234) ∧
    decodeTableWord 8 0x3E = some (.mviA 0x00) ∧ decodeTableWord 8 0x08 = some .undocumented08 := by decide

theorem test_encode :
    encode (.lxiB 0x1234) = [0x01, 0x34, 0x12] ∧ encode (.lxiSp 0x2000) = [0x31, 0x00, 0x20] ∧
    encode (.mviM 0x5A) = [0x36, 0x5A] ∧ encode .rst5 = [0xEF] := by decide

/-! ## Ill-formed terms (spec/30_encoding.md R105): the one check of WellFormed refuses each of the twelve -/

theorem test_illFormed_refused : Instr.undocumented.all (fun i => !i.wellFormed) = true := by decide

theorem test_illFormed_08 : Instr.undocumented08.wellFormed = false := by decide

theorem test_wellFormed_accepted : Instr.nop.wellFormed = true ∧ Instr.hlt.wellFormed = true ∧
    (Instr.jmp 0xFFFF).wellFormed = true := by decide

/-! ## Single steps -/

/-- The state after a step. -/
def after (s : State) : State :=
  match step s with
  | .next t => t
  | _ => s

/-- `s` with a byte at an address. -/
def poke (addr : Word) (v : Byte) (s : State) : State := memWrite addr v s

/-- `s` with bytes at PC and on. -/
def code (bytes : List Byte) (s : State) : State :=
  memWrite s.pc (bytes.getD 0 0) (memWrite (s.pc + 1) (bytes.getD 1 0) (memWrite (s.pc + 2) (bytes.getD 2 0) s))

/-- Flags in the order of the spec's tables: Z S P CY AC. -/
def zspca (z s p cy ac : Nat) : Flags := ⟨z == 1, s == 1, p == 1, cy == 1, ac == 1⟩

/-- V5. -/
theorem test_v5_mov_b_c :
    let t := after (code [0x41] { State.reset with c := 0x5A })
    t.b = 0x5A ∧ t.pc = 0x0001 ∧ t.flags = zspca 1 1 1 1 1 := by decide

/-- V8. -/
theorem test_v8_mov_l_m :
    let t := after (poke 0x2010 0x99 (code [0x6E] { State.reset with h := 0x20, l := 0x10 }))
    t.l = 0x99 ∧ t.pc = 0x0001 ∧ t.flags = zspca 1 1 1 1 1 := by decide

/-- V9. -/
theorem test_v9_mov_a_m :
    let t := after (poke 0x2010 0x42 (code [0x7E] { State.reset with h := 0x60, l := 0x10 }))
    t.a = 0x42 ∧ t.pc = 0x0001 ∧ t.flags = zspca 1 1 1 1 1 := by decide

/-- V12. -/
theorem test_v12_mov_m_a :
    let t := after (code [0x77] { State.reset with h := 0xFF, l := 0xFF, a := 0x11 })
    t.pc = 0x0001 ∧ memRead t 0x3FFF = 0x11 ∧ t.flags = zspca 1 1 1 1 1 := by decide

/-- V15. -/
theorem test_v15_mvi_m_0x5a :
    let t := after (code [0x36, 0x5A] { State.reset with h := 0x21, l := 0x00 })
    t.pc = 0x0002 ∧ memRead t 0x2100 = 0x5A ∧ t.flags = zspca 1 1 1 1 1 := by decide

/-- V16. -/
theorem test_v16_lxi_d_0xbeef :
    let t := after (code [0x11, 0xEF, 0xBE] State.reset)
    t.d = 0xBE ∧ t.e = 0xEF ∧ t.pc = 0x0003 ∧ t.flags = zspca 1 1 1 1 1 := by decide

/-- V18. -/
theorem test_v18_lxi_sp_0xffff :
    let t := after (code [0x31, 0xFF, 0xFF] State.reset)
    t.sp = 0xFFFF ∧ t.pc = 0x0003 ∧ t.flags = zspca 1 1 1 1 1 := by decide

/-- V20. -/
theorem test_v20_sta_0x7fff :
    let t := after (code [0x32, 0xFF, 0x7F] { State.reset with a := 0xC3 })
    t.pc = 0x0003 ∧ memRead t 0x3FFF = 0xC3 ∧ t.flags = zspca 1 1 1 1 1 := by decide

/-- V23. -/
theorem test_v23_lhld_0xffff :
    let t := after (poke 0x3FFF 0x34 (code [0x2A, 0xFF, 0xFF] State.reset))
    t.h = 0x2A ∧ t.l = 0x34 ∧ t.pc = 0x0003 ∧ t.flags = zspca 1 1 1 1 1 := by decide

/-- V24. -/
theorem test_v24_shld_0x210a :
    let t := after (code [0x22, 0x0A, 0x21] { State.reset with h := 0xAE, l := 0x29 })
    t.pc = 0x0003 ∧ memRead t 0x210A = 0x29 ∧ memRead t 0x210B = 0xAE ∧ t.flags = zspca 1 1 1 1 1 := by decide

/-- V25. -/
theorem test_v25_ldax_b :
    let t := after (poke 0x2002 0x77 (code [0x0A] { State.reset with b := 0x20, c := 0x02 }))
    t.a = 0x77 ∧ t.pc = 0x0001 ∧ t.flags = zspca 1 1 1 1 1 := by decide

/-- V27. -/
theorem test_v27_stax_b :
    let t := after (code [0x02] { State.reset with b := 0x3F, c := 0x16, a := 0x5C })
    t.pc = 0x0001 ∧ memRead t 0x3F16 = 0x5C ∧ t.flags = zspca 1 1 1 1 1 := by decide

/-- V29. -/
theorem test_v29_xchg :
    let t := after (code [0xEB] { State.reset with d := 0x33, e := 0x55, h := 0x00, l := 0xFF })
    t.d = 0x00 ∧ t.e = 0xFF ∧ t.h = 0x33 ∧ t.l = 0x55 ∧ t.pc = 0x0001 ∧ t.flags = zspca 1 1 1 1 1 := by decide

/-- V30. -/
theorem test_v30_lxi_b_0x1234 :
    let t := after (poke 0x0001 0x12 (poke 0x0000 0x34 (poke 0x3FFF 0x01 ({ State.reset with pc := 0x3FFF }))))
    t.b = 0x12 ∧ t.c = 0x34 ∧ t.pc = 0x4002 ∧ t.flags = zspca 1 1 1 1 1 := by decide

/-- V31. -/
theorem test_v31_mvi_a_0x9c :
    let t := after (poke 0x0000 0x9C (poke 0x3FFF 0x3E ({ State.reset with pc := 0xFFFF })))
    t.a = 0x9C ∧ t.pc = 0x0001 ∧ t.flags = zspca 1 1 1 1 1 := by decide

/-- V32. -/
theorem test_v32_add_d :
    let t := after (code [0x82] { State.reset with a := 0x6C, d := 0x2E })
    t.a = 0x9A ∧ t.pc = 0x0001 ∧ t.flags = zspca 0 1 1 0 1 := by decide

/-- V34. -/
theorem test_v34_add_m :
    let t := after (poke 0x2000 0xFF (code [0x86] { State.reset with a := 0x01, h := 0x20, l := 0x00 }))
    t.a = 0x00 ∧ t.pc = 0x0001 ∧ t.flags = zspca 1 0 1 1 1 := by decide

/-- V35. -/
theorem test_v35_add_b :
    let t := after (code [0x80] { State.reset with a := 0x7F, b := 0x01 })
    t.a = 0x80 ∧ t.pc = 0x0001 ∧ t.flags = zspca 0 1 0 0 1 := by decide

/-- V37. -/
theorem test_v37_adi_0xbe :
    let t := after (code [0xC6, 0xBE] { State.reset with a := 0x56 })
    t.a = 0x14 ∧ t.pc = 0x0002 ∧ t.flags = zspca 0 0 1 1 1 := by decide

/-- V39. -/
theorem test_v39_adc_c :
    let t := after (code [0x89] { State.reset with a := 0x3D, c := 0x42 })
    t.a = 0x80 ∧ t.pc = 0x0001 ∧ t.flags = zspca 0 1 0 0 1 := by decide

/-- V42. -/
theorem test_v42_aci_0xff :
    let t := after (code [0xCE, 0xFF] { State.reset with a := 0x00 })
    t.a = 0x00 ∧ t.pc = 0x0002 ∧ t.flags = zspca 1 0 1 1 1 := by decide

/-- V44. -/
theorem test_v44_sub_b :
    let t := after (code [0x90] { State.reset with a := 0x00, b := 0x01 })
    t.a = 0xFF ∧ t.pc = 0x0001 ∧ t.flags = zspca 0 1 1 1 0 := by decide

/-- V45. -/
theorem test_v45_sub_m :
    let t := after (poke 0x2000 0x01 (code [0x96] { State.reset with a := 0x80, h := 0x20, l := 0x00 }))
    t.a = 0x7F ∧ t.pc = 0x0001 ∧ t.flags = zspca 0 0 0 0 0 := by decide

/-- V46. -/
theorem test_v46_sui_0x01 :
    let t := after (code [0xD6, 0x01] { State.reset with a := 0x00 })
    t.a = 0xFF ∧ t.pc = 0x0002 ∧ t.flags = zspca 0 1 1 1 0 := by decide

/-- V49. -/
theorem test_v49_sbb_b :
    let t := after (code [0x98] { State.reset with a := 0x00, b := 0xFF })
    t.a = 0x00 ∧ t.pc = 0x0001 ∧ t.flags = zspca 1 0 1 1 0 := by decide

/-- V51. -/
theorem test_v51_sbi_0x01 :
    let t := after (code [0xDE, 0x01] { State.reset with a := 0x00 })
    t.a = 0xFE ∧ t.pc = 0x0002 ∧ t.flags = zspca 0 1 0 1 0 := by decide

/-- V53. -/
theorem test_v53_inr_a :
    let t := after (code [0x3C] { State.reset with a := 0xFF })
    t.a = 0x00 ∧ t.pc = 0x0001 ∧ t.flags = zspca 1 0 1 1 1 := by decide

/-- V55. -/
theorem test_v55_inr_m :
    let t := after (poke 0x2000 0x0F (code [0x34] { State.reset with h := 0x20, l := 0x00 }))
    t.pc = 0x0001 ∧ memRead t 0x2000 = 0x10 ∧ t.flags = zspca 0 0 0 1 1 := by decide

/-- V56. -/
theorem test_v56_dcr_b :
    let t := after (code [0x05] { State.reset with b := 0x00 })
    t.b = 0xFF ∧ t.pc = 0x0001 ∧ t.flags = zspca 0 1 1 1 0 := by decide

/-- V59. -/
theorem test_v59_dcr_m :
    let t := after (poke 0x3A7C 0x40 (code [0x35] { State.reset with h := 0x3A, l := 0x7C }))
    t.pc = 0x0001 ∧ memRead t 0x3A7C = 0x3F ∧ t.flags = zspca 0 0 1 1 0 := by decide

/-- V60. -/
theorem test_v60_inx_d :
    let t := after (code [0x13] { State.reset with d := 0x38, e := 0xFF })
    t.d = 0x39 ∧ t.e = 0x00 ∧ t.pc = 0x0001 ∧ t.flags = zspca 1 1 1 1 1 := by decide

/-- V61. -/
theorem test_v61_inx_sp :
    let t := after (code [0x33] { State.reset with sp := 0xFFFF })
    t.sp = 0x0000 ∧ t.pc = 0x0001 ∧ t.flags = zspca 1 1 1 1 1 := by decide

/-- V64. -/
theorem test_v64_dcx_b :
    let t := after (code [0x0B] { State.reset with b := 0x00, c := 0x00 })
    t.b = 0xFF ∧ t.c = 0xFF ∧ t.pc = 0x0001 ∧ t.flags = zspca 1 1 1 1 1 := by decide

/-- V65. -/
theorem test_v65_dcx_sp :
    let t := after (code [0x3B] { State.reset with sp := 0x0000 })
    t.sp = 0xFFFF ∧ t.pc = 0x0001 ∧ t.flags = zspca 1 1 1 1 1 := by decide

/-- V66. -/
theorem test_v66_dad_b :
    let t := after (code [0x09] { State.reset with b := 0x33, c := 0x9F, h := 0xA1, l := 0x7B })
    t.h = 0xD5 ∧ t.l = 0x1A ∧ t.pc = 0x0001 ∧ t.flags = zspca 1 1 1 0 1 := by decide

/-- V69. -/
theorem test_v69_dad_d :
    let t := after (code [0x19] { State.reset with d := 0x00, e := 0x01, h := 0xFF, l := 0xFF })
    t.h = 0x00 ∧ t.l = 0x00 ∧ t.pc = 0x0001 ∧ t.flags = zspca 1 1 1 1 1 := by decide

/-- V70. -/
theorem test_v70_daa :
    let t := after (code [0x27] { State.reset with a := 0x9B, flags := zspca 0 1 0 0 0 })
    t.a = 0x01 ∧ t.pc = 0x0001 ∧ t.flags = zspca 0 0 0 1 1 := by decide

/-- V76. -/
theorem test_v76_daa :
    let t := after (code [0x27] { State.reset with a := 0x12, flags := zspca 0 0 0 1 0 })
    t.a = 0x72 ∧ t.pc = 0x0001 ∧ t.flags = zspca 0 0 1 1 0 := by decide

/-- V81. -/
theorem test_v81_ana_b :
    let t := after (code [0xA0] { State.reset with a := 0x08, b := 0x00 })
    t.a = 0x00 ∧ t.pc = 0x0001 ∧ t.flags = zspca 1 0 1 0 1 := by decide

/-- V84. -/
theorem test_v84_ani_0x0f :
    let t := after (code [0xE6, 0x0F] { State.reset with a := 0xF0 })
    t.a = 0x00 ∧ t.pc = 0x0002 ∧ t.flags = zspca 1 0 1 0 1 := by decide

/-- V85. -/
theorem test_v85_xra_a :
    let t := after (code [0xAF] { State.reset with a := 0x5C })
    t.a = 0x00 ∧ t.pc = 0x0001 ∧ t.flags = zspca 1 0 1 0 0 := by decide

/-- V87. -/
theorem test_v87_xri_0x81 :
    let t := after (code [0xEE, 0x81] { State.reset with a := 0x3B })
    t.a = 0xBA ∧ t.pc = 0x0002 ∧ t.flags = zspca 0 1 0 0 0 := by decide

/-- V88. -/
theorem test_v88_ora_c :
    let t := after (code [0xB1] { State.reset with a := 0x33, c := 0x0F })
    t.a = 0x3F ∧ t.pc = 0x0001 ∧ t.flags = zspca 0 0 1 0 0 := by decide

/-- V90. -/
theorem test_v90_ori_0x0f :
    let t := after (code [0xF6, 0x0F] { State.reset with a := 0xB5 })
    t.a = 0xBF ∧ t.pc = 0x0002 ∧ t.flags = zspca 0 1 0 0 0 := by decide

/-- V92. -/
theorem test_v92_cmp_e :
    let t := after (code [0xBB] { State.reset with a := 0x02, e := 0x05 })
    t.a = 0x02 ∧ t.pc = 0x0001 ∧ t.flags = zspca 0 1 0 1 0 := by decide

/-- V95. -/
theorem test_v95_cmp_m :
    let t := after (poke 0x2000 0x10 (code [0xBE] { State.reset with a := 0x10, h := 0x20, l := 0x00 }))
    t.a = 0x10 ∧ t.pc = 0x0001 ∧ t.flags = zspca 1 0 1 0 1 := by decide

/-- V97. -/
theorem test_v97_cpi_0x40 :
    let t := after (code [0xFE, 0x40] { State.reset with a := 0x40 })
    t.a = 0x40 ∧ t.pc = 0x0002 ∧ t.flags = zspca 1 0 1 0 1 := by decide

/-- V99. -/
theorem test_v99_rlc :
    let t := after (code [0x07] { State.reset with a := 0xF2, flags := zspca 1 1 1 0 1 })
    t.a = 0xE5 ∧ t.pc = 0x0001 ∧ t.flags = zspca 1 1 1 1 1 := by decide

/-- V102. -/
theorem test_v102_rrc :
    let t := after (code [0x0F] { State.reset with a := 0x01, flags := zspca 1 1 1 0 1 })
    t.a = 0x80 ∧ t.pc = 0x0001 ∧ t.flags = zspca 1 1 1 1 1 := by decide

/-- V104. -/
theorem test_v104_ral :
    let t := after (code [0x17] { State.reset with a := 0x00 })
    t.a = 0x01 ∧ t.pc = 0x0001 ∧ t.flags = zspca 1 1 1 0 1 := by decide

/-- V105. -/
theorem test_v105_rar :
    let t := after (code [0x1F] { State.reset with a := 0x6A })
    t.a = 0xB5 ∧ t.pc = 0x0001 ∧ t.flags = zspca 1 1 1 0 1 := by decide

/-- V107. -/
theorem test_v107_cma :
    let t := after (code [0x2F] { State.reset with a := 0x51 })
    t.a = 0xAE ∧ t.pc = 0x0001 ∧ t.flags = zspca 1 1 1 1 1 := by decide

/-- V108. -/
theorem test_v108_cmc :
    let t := after (code [0x3F] State.reset)
    t.a = 0x00 ∧ t.pc = 0x0001 ∧ t.flags = zspca 1 1 1 0 1 := by decide

/-- V110. -/
theorem test_v110_stc :
    let t := after (code [0x37] { State.reset with flags := zspca 1 1 1 0 1 })
    t.a = 0x00 ∧ t.pc = 0x0001 ∧ t.flags = zspca 1 1 1 1 1 := by decide

/-- V113. -/
theorem test_v113_jmp_0x8000 :
    let t := after (code [0xC3, 0x00, 0x80] State.reset)
    t.a = 0x00 ∧ t.pc = 0x8000 ∧ t.flags = zspca 1 1 1 1 1 := by decide

/-- V116. -/
theorem test_v116_call_0x0200 :
    let t := after (code [0xCD, 0x00, 0x02] State.reset)
    t.sp = 0xFFFE ∧ t.pc = 0x0200 ∧ memRead t 0x3FFE = 0x03 ∧ t.flags = zspca 1 1 1 1 1 := by decide

/-- V117. -/
theorem test_v117_call_0x0200 :
    let t := after (code [0xCD, 0x00, 0x02] { State.reset with pc := 0xFFFD, sp := 0x2400 })
    t.sp = 0x23FE ∧ t.pc = 0x0200 ∧ t.flags = zspca 1 1 1 1 1 := by decide

/-- V119. -/
theorem test_v119_ret :
    let t := after (poke 0x0000 0x20 (poke 0x3FFF 0x10 (code [0xC9] { State.reset with pc := 0x0200, sp := 0xFFFF })))
    t.sp = 0x0001 ∧ t.pc = 0x2010 ∧ t.flags = zspca 1 1 1 1 1 := by decide

/-- V121. -/
theorem test_v121_rst_5 :
    let t := after (code [0xEF] { State.reset with pc := 0x0150, sp := 0x2400 })
    t.sp = 0x23FE ∧ t.pc = 0x0028 ∧ memRead t 0x23FE = 0x51 ∧ memRead t 0x23FF = 0x01 ∧
    t.flags = zspca 1 1 1 1 1 := by decide

/-- V122. -/
theorem test_v122_rst_7 :
    let t := after (code [0xFF] { State.reset with pc := 0x0038, sp := 0x2400 })
    t.sp = 0x23FE ∧ t.pc = 0x0038 ∧ memRead t 0x23FE = 0x39 ∧ t.flags = zspca 1 1 1 1 1 := by decide

/-- V123. -/
theorem test_v123_pchl :
    let t := after (code [0xE9] { State.reset with h := 0x41, l := 0x3E })
    t.a = 0x00 ∧ t.pc = 0x413E ∧ t.flags = zspca 1 1 1 1 1 := by decide

/-- V125. -/
theorem test_v125_push_b :
    let t := after (code [0xC5] { State.reset with b := 0x12, c := 0x34, sp := 0x0001 })
    t.sp = 0xFFFF ∧ t.pc = 0x0001 ∧ memRead t 0x0000 = 0x12 ∧ memRead t 0x3FFF = 0x34 ∧
    t.flags = zspca 1 1 1 1 1 := by decide

/-- V129. -/
theorem test_v129_push_psw :
    let t := after (code [0xF5] { State.reset with a := 0xFF, sp := 0x2400, flags := zspca 0 0 0 0 0 })
    t.sp = 0x23FE ∧ t.pc = 0x0001 ∧ memRead t 0x23FE = 0x02 ∧ memRead t 0x23FF = 0xFF ∧
    t.flags = zspca 0 0 0 0 0 := by decide

/-- V131. -/
theorem test_v131_pop_b :
    let t := after (poke 0x0000 0xC1 (poke 0x3FFF 0x11 (code [0xC1] { State.reset with sp := 0xFFFF })))
    t.b = 0xC1 ∧ t.c = 0x11 ∧ t.sp = 0x0001 ∧ t.pc = 0x0001 ∧ t.flags = zspca 1 1 1 1 1 := by decide

/-- V133. -/
theorem test_v133_pop_psw :
    let t := after (poke 0x2C01 0x12 (poke 0x2C00 0xFF (code [0xF1] { State.reset with sp := 0x2C00 })))
    t.a = 0x12 ∧ t.sp = 0x2C02 ∧ t.pc = 0x0001 ∧ t.flags = zspca 1 1 1 1 1 := by decide

/-- V135. -/
theorem test_v135_xthl :
    let t := after (poke 0x10AE 0x0D (poke 0x10AD 0xF0 (code [0xE3] { State.reset with sp := 0x10AD, h := 0x0B, l := 0x3C })))
    t.h = 0x0D ∧ t.l = 0xF0 ∧ t.pc = 0x0001 ∧ memRead t 0x10AD = 0x3C ∧ memRead t 0x10AE = 0x0B ∧
    t.flags = zspca 1 1 1 1 1 := by decide

/-- V136. -/
theorem test_v136_sphl :
    let t := after (code [0xF9] { State.reset with h := 0x50, l := 0x6C })
    t.sp = 0x506C ∧ t.pc = 0x0001 ∧ t.flags = zspca 1 1 1 1 1 := by decide

/-- V138. -/
theorem test_v138_out_0x20 :
    let t := after (code [0xD3, 0x20] { State.reset with a := 0xA5 })
    t.pc = 0x0002 ∧ t.flags = zspca 1 1 1 1 1 ∧ t.io = [.output 0x20 0xA5] := by decide

/-- V139. -/
theorem test_v139_ei :
    let t := after (code [0xFB] { State.reset with inte := false })
    t.pc = 0x0001 ∧ t.flags = zspca 1 1 1 1 1 ∧ t.inte = true := by decide

/-- V141. -/
theorem test_v141_di :
    let t := after (code [0xF3] State.reset)
    t.pc = 0x0001 ∧ t.flags = zspca 1 1 1 1 1 ∧ t.inte = false := by decide

/-- V142. -/
theorem test_v142_hlt :
    let t := after (code [0x76] { State.reset with pc := 0x0002 })
    t.pc = 0x0003 ∧ t.flags = zspca 1 1 1 1 1 ∧ t.run = .haltedNormal := by decide

/-- V144. -/
theorem test_v144_nop :
    let t := after (code [0x00] { State.reset with pc := 0xFFFF })
    t.a = 0x00 ∧ t.pc = 0x0000 ∧ t.flags = zspca 1 1 1 1 1 := by decide

/-- V145. -/
theorem test_v145_undocumented_0x08 :
    let t := after (code [0x08, 0x34, 0x12] { State.reset with a := 0x11, sp := 0x2400, pc := 0x0010 })
    t.pc = 0x0011 ∧ t.flags = zspca 1 1 1 1 1 ∧ t.run = .haltedFault ∧ t.fault = some ⟨0x08, 0x0010⟩ := by decide

/-- V156. -/
theorem test_v156_undocumented_0xfd :
    let t := after (code [0xFD, 0x34, 0x12] { State.reset with a := 0x11, sp := 0x2400, pc := 0x0010 })
    t.pc = 0x0011 ∧ t.flags = zspca 1 1 1 1 1 ∧ t.run = .haltedFault ∧ t.fault = some ⟨0xFD, 0x0010⟩ := by decide

/-- V157. -/
theorem test_v157_mov_b_c :
    let t := after (code [0x41] { State.reset with cfg := { Config.default with withheld := [0x41] }, c := 0x5A })
    t.pc = 0x0001 ∧ t.flags = zspca 1 1 1 1 1 ∧ t.run = .haltedFault ∧ t.fault = some ⟨0x41, 0x0000⟩ := by decide

/-- V158. -/
theorem test_v158_hlt :
    let t := after (code [0x76] { State.reset with cfg := { Config.default with withheld := [0x76] } })
    t.pc = 0x0001 ∧ t.flags = zspca 1 1 1 1 1 ∧ t.run = .haltedFault ∧ t.fault = some ⟨0x76, 0x0000⟩ := by decide

/-- V159. -/
theorem test_v159_nop :
    let t := after (code [0x00] { State.reset with cfg := { Config.default with pcLimit := some 0 } })
    t.pc = 0x0000 ∧ t.flags = zspca 1 1 1 1 1 ∧ t.run = .haltedNormal := by decide

/-- V160. -/
theorem test_v160_lxi_b_0x1234 :
    let t := after (code [0x01, 0x34, 0x12] { State.reset with cfg := { Config.default with pcLimit := some 3 }, pc := 0x0002 })
    t.b = 0x12 ∧ t.c = 0x34 ∧ t.pc = 0x0005 ∧ t.flags = zspca 1 1 1 1 1 := by decide

/-- V161. -/
theorem test_v161_lxi_b_0x1234 :
    let t := after (code [0x01, 0x34, 0x12] { State.reset with cfg := { Config.default with pcLimit := some 3 }, pc := 0x0003 })
    t.pc = 0x0003 ∧ t.flags = zspca 1 1 1 1 1 ∧ t.run = .haltedNormal := by decide

/-- V162. -/
theorem test_v162_undocumented_0x08 :
    let t := after (code [0x08] { State.reset with cfg := { Config.default with pcLimit := some 3 }, pc := 0x0003 })
    t.pc = 0x0003 ∧ t.flags = zspca 1 1 1 1 1 ∧ t.run = .haltedNormal := by decide

/-! ### The table of conditional instructions (spec/95_test_vectors.md, branch family): all sixteen rows -/

/-- The start state of the table: SP and the stack bytes, the instruction at 0x0100. -/
def condStart (op : Byte) (f : Flags) : State :=
  poke 0x2400 0x78 (poke 0x2401 0x16 (code [op, 0x00, 0x02] { State.reset with pc := 0x0100, sp := 0x2400, flags := f }))

/-- PC and SP after the step. -/
def condEnd (op : Byte) (f : Flags) : Word × Word := ((after (condStart op f)).pc, (after (condStart op f)).sp)

theorem test_conditional_jumps_Z_CY :
    condEnd 0xC2 (zspca 0 1 1 1 1) = (0x0200, 0x2400) ∧
    condEnd 0xC2 (zspca 1 1 1 1 1) = (0x0103, 0x2400) ∧
    condEnd 0xCA (zspca 0 1 1 1 1) = (0x0103, 0x2400) ∧
    condEnd 0xCA (zspca 1 1 1 1 1) = (0x0200, 0x2400) ∧
    condEnd 0xD2 (zspca 1 1 1 0 1) = (0x0200, 0x2400) ∧
    condEnd 0xD2 (zspca 1 1 1 1 1) = (0x0103, 0x2400) ∧
    condEnd 0xDA (zspca 1 1 1 0 1) = (0x0103, 0x2400) ∧
    condEnd 0xDA (zspca 1 1 1 1 1) = (0x0200, 0x2400) := by decide

theorem test_conditional_jumps_P_S :
    condEnd 0xE2 (zspca 1 1 0 1 1) = (0x0200, 0x2400) ∧
    condEnd 0xE2 (zspca 1 1 1 1 1) = (0x0103, 0x2400) ∧
    condEnd 0xEA (zspca 1 1 0 1 1) = (0x0103, 0x2400) ∧
    condEnd 0xEA (zspca 1 1 1 1 1) = (0x0200, 0x2400) ∧
    condEnd 0xF2 (zspca 1 0 1 1 1) = (0x0200, 0x2400) ∧
    condEnd 0xF2 (zspca 1 1 1 1 1) = (0x0103, 0x2400) ∧
    condEnd 0xFA (zspca 1 0 1 1 1) = (0x0103, 0x2400) ∧
    condEnd 0xFA (zspca 1 1 1 1 1) = (0x0200, 0x2400) := by decide

theorem test_conditional_calls_Z_CY :
    condEnd 0xC4 (zspca 0 1 1 1 1) = (0x0200, 0x23FE) ∧
    condEnd 0xC4 (zspca 1 1 1 1 1) = (0x0103, 0x2400) ∧
    condEnd 0xCC (zspca 0 1 1 1 1) = (0x0103, 0x2400) ∧
    condEnd 0xCC (zspca 1 1 1 1 1) = (0x0200, 0x23FE) ∧
    condEnd 0xD4 (zspca 1 1 1 0 1) = (0x0200, 0x23FE) ∧
    condEnd 0xD4 (zspca 1 1 1 1 1) = (0x0103, 0x2400) ∧
    condEnd 0xDC (zspca 1 1 1 0 1) = (0x0103, 0x2400) ∧
    condEnd 0xDC (zspca 1 1 1 1 1) = (0x0200, 0x23FE) := by decide

theorem test_conditional_calls_P_S :
    condEnd 0xE4 (zspca 1 1 0 1 1) = (0x0200, 0x23FE) ∧
    condEnd 0xE4 (zspca 1 1 1 1 1) = (0x0103, 0x2400) ∧
    condEnd 0xEC (zspca 1 1 0 1 1) = (0x0103, 0x2400) ∧
    condEnd 0xEC (zspca 1 1 1 1 1) = (0x0200, 0x23FE) ∧
    condEnd 0xF4 (zspca 1 0 1 1 1) = (0x0200, 0x23FE) ∧
    condEnd 0xF4 (zspca 1 1 1 1 1) = (0x0103, 0x2400) ∧
    condEnd 0xFC (zspca 1 0 1 1 1) = (0x0103, 0x2400) ∧
    condEnd 0xFC (zspca 1 1 1 1 1) = (0x0200, 0x23FE) := by decide

theorem test_conditional_returns_Z_CY :
    condEnd 0xC0 (zspca 0 1 1 1 1) = (0x1678, 0x2402) ∧
    condEnd 0xC0 (zspca 1 1 1 1 1) = (0x0101, 0x2400) ∧
    condEnd 0xC8 (zspca 0 1 1 1 1) = (0x0101, 0x2400) ∧
    condEnd 0xC8 (zspca 1 1 1 1 1) = (0x1678, 0x2402) ∧
    condEnd 0xD0 (zspca 1 1 1 0 1) = (0x1678, 0x2402) ∧
    condEnd 0xD0 (zspca 1 1 1 1 1) = (0x0101, 0x2400) ∧
    condEnd 0xD8 (zspca 1 1 1 0 1) = (0x0101, 0x2400) ∧
    condEnd 0xD8 (zspca 1 1 1 1 1) = (0x1678, 0x2402) := by decide

theorem test_conditional_returns_P_S :
    condEnd 0xE0 (zspca 1 1 0 1 1) = (0x1678, 0x2402) ∧
    condEnd 0xE0 (zspca 1 1 1 1 1) = (0x0101, 0x2400) ∧
    condEnd 0xE8 (zspca 1 1 0 1 1) = (0x0101, 0x2400) ∧
    condEnd 0xE8 (zspca 1 1 1 1 1) = (0x1678, 0x2402) ∧
    condEnd 0xF0 (zspca 1 0 1 1 1) = (0x1678, 0x2402) ∧
    condEnd 0xF0 (zspca 1 1 1 1 1) = (0x0101, 0x2400) ∧
    condEnd 0xF8 (zspca 1 0 1 1 1) = (0x0101, 0x2400) ∧
    condEnd 0xF8 (zspca 1 1 1 1 1) = (0x1678, 0x2402) := by decide

/-! ## Witnesses: for each statement with hypotheses, a state and operands that meet all of them -/

/-- A machine of 4 bytes of memory with a bound on PC. -/
def small (limit : Option (Fin 65537)) : State :=
  State.construct { memDoublings := 0, withheld := [], pcLimit := limit }

/-- Obligations.LengthByOpcode, one opcode byte of each length. -/
theorem test_witness_lengthByOpcode : documented 0x41 = true ∧ documented 0x3E = true ∧
    documented 0xCD = true := by decide

/-- Obligations.UndocumentedBytesAlwaysFault, the clauses about a byte and about a step. -/
theorem test_witness_undocumentedBytesAlwaysFault :
    let s := code [0xFD] State.reset
    (0x08 : Byte) ∈ undocumentedOpcodes ∧ (0xFD : Byte) ∈ undocumentedOpcodes ∧ s.run = .running ∧
    s.cfg.pcLimit = none ∧ memRead s s.pc = 0xFD := by decide

/-- Obligations.TableWordRuns, a three-byte instruction and no bound. -/
theorem test_witness_tableWordRuns :
    State.reset.run = .running ∧ State.reset.cfg.pcLimit = none ∧
    implemented State.reset.cfg (BitVec.ofNat 8 (0x123401 % 2 ^ 24)) = true ∧
    (after (State.reset.withFetchWord 24 0x123401)).bc = 0x1234 ∧
    (after (State.reset.withFetchWord 24 0x123401)).pc = 0x0003 := by decide

/-- Obligations.StepRunsDecoded, at a PC that wraps around memory and one below the bound. -/
theorem test_witness_stepRunsDecoded :
    let s := code [0x01, 0x34, 0x12] { small (some 4) with pc := 0x0003 }
    s.run = .running ∧ s.pc.toNat < 4 ∧
    decode [memRead s s.pc, memRead s (s.pc + 1), memRead s (s.pc + 2)] = .ok (.lxiB 0x1234, []) ∧
    (Instr.lxiB 0x1234).wellFormed = true ∧ implemented s.cfg (memRead s s.pc) = true :=
  ⟨rfl, by decide, rfl, by decide, by decide⟩

/-- Obligations.HaltedStateStays, both halted values. -/
theorem test_witness_haltedStateStays :
    ({ State.reset with run := .haltedNormal }).run ≠ .running ∧
    ({ State.reset with run := .haltedFault }).run ≠ .running := by decide

/-- Obligations.PcLimitHaltsCleanly, at the bound, one below it, with the bounds 0 and 65536, and without a bound. -/
theorem test_witness_pcLimitHaltsCleanly :
    (3 : Fin 65537).val ≤ ({ small (some 3) with pc := 0x0003 }).pc.toNat ∧
    ({ small (some 3) with pc := 0x0002 }).pc.toNat < (3 : Fin 65537).val ∧
    (0 : Fin 65537).val ≤ (small (some 0)).pc.toNat ∧
    ({ small (some 65536) with pc := 0xFFFF }).pc.toNat < (65536 : Fin 65537).val ∧
    (small none).cfg.pcLimit = none ∧ (small none).run = .running := by decide

/-- What the step does at the bound and one below it. -/
theorem test_pcLimit_boundary :
    after { small (some 3) with pc := 0x0003 } = { small (some 3) with pc := 0x0003, run := .haltedNormal } ∧
    after { small (some 3) with pc := 0x0002 } = { small (some 3) with pc := 0x0003 } ∧
    after { small (some 65536) with pc := 0xFFFF } = small (some 65536) := by decide

/-- Obligations.UnimplementedOpcodeFault, a documented byte withheld and one that is not. -/
theorem test_witness_unimplementedOpcodeFault :
    let s := code [0x02] { State.reset with cfg := { Config.default with withheld := [0x02] } }
    s.run = .running ∧ s.cfg.pcLimit = none ∧ implemented s.cfg (memRead s s.pc) = false ∧
    implemented State.reset.cfg (memRead State.reset State.reset.pc) = true := by decide

/-- Obligations.RunEndsInThreeWays, each of the three ends. -/
theorem test_witness_runEndsInThreeWays :
    let byHlt := code [0x76] State.reset
    let byBound := small (some 0)
    let byFault := code [0x08] State.reset
    byHlt.Inv ∧ byHlt.run = .running ∧ (after byHlt).run = .haltedNormal ∧ (after byHlt).pc = 1 ∧
    byBound.Inv ∧ byBound.run = .running ∧ (after byBound).run = .haltedNormal ∧ (after byBound).pc = 0 ∧
    byFault.Inv ∧ byFault.run = .running ∧ (after byFault).run = .haltedFault ∧
    (after byFault).fault = some ⟨0x08, 0x0000⟩ := by decide

/-- Obligations.StepKeepsInvariant, a step that stores. -/
theorem test_witness_stepKeepsInvariant :
    let s := code [0x36, 0x5A] { State.reset with h := 0xFF, l := 0xFF }
    s.Inv ∧ step s = .next (after s) ∧ (after s).Inv ∧ (after s).mem = [(0, 0x36), (1, 0x5A), (0x3FFF, 0x5A)] :=
  ⟨by decide, rfl, by decide, by decide⟩

/-- The invariant is refused where memory lists a blank byte, an index beyond the image or indices out of order, and
where the fault record and the sequencer disagree. -/
theorem test_invariant_refuses :
    ¬ State.Inv { State.reset with mem := [(0, 0x00)] } ∧ ¬ State.Inv { State.reset with mem := [(16384, 0x01)] } ∧
    ¬ State.Inv { State.reset with mem := [(1, 0x01), (0, 0x01)] } ∧
    ¬ State.Inv { State.reset with run := .haltedFault } ∧
    ¬ State.Inv { State.reset with fault := some ⟨0x08, 0⟩ } := by
  decide

/-- Obligations.ParametersNeverChange, a step with a port access and one without. -/
theorem test_witness_parametersNeverChange :
    let s := code [0xD3, 0x20] State.reset
    step s = .next (after s) ∧ (after s).io = s.io ++ [.output 0x20 0x00] ∧
    step State.reset = .next (after State.reset) ∧ (after State.reset).io = State.reset.io :=
  ⟨rfl, by decide, rfl, by decide⟩

/-- Obligations.LaunchPlacesImage, an image of MEM_SIZE bytes, one byte more, and the empty image. -/
theorem test_witness_launchPlacesImage :
    let cfg : Config := { memDoublings := 0, withheld := [], pcLimit := none }
    memSize cfg = 4 ∧ [0x01, 0x02, 0x03, 0x04].length ≤ memSize cfg ∧
    memSize cfg < [0x01, 0x02, 0x03, 0x04, 0x05].length ∧
    launch cfg [0x01, 0x02, 0x03, 0x04] = .ok { small none with mem := [(0, 1), (1, 2), (2, 3), (3, 4)] } ∧
    launch cfg [0x01, 0x02, 0x03, 0x04, 0x05] = .error .imageTooLarge ∧ launch cfg [] = .ok (small none) :=
  ⟨by decide, by decide, by decide, rfl, rfl, rfl⟩

/-- Obligations.FrameOfEveryInstruction, a form that stores nothing and one that stores two bytes over the end of
memory. -/
theorem test_witness_frameOfEveryInstruction :
    exec .xchg { State.reset with d := 0x01 } = .next { State.reset with h := 0x01 } ∧
    instrStores .xchg State.reset = [] ∧
    exec (.shld 0xFFFF) { State.reset with h := 0x12, l := 0x34 } =
      .next { State.reset with h := 0x12, l := 0x34, pc := 2, mem := [(0, 0x12), (0x3FFF, 0x34)] } ∧
    (instrStores (.shld 0xFFFF) State.reset).map State.reset.index = [0x3FFF, 0] :=
  ⟨rfl, rfl, rfl, by decide⟩

/-- The addresses a frame leaves free, at the forms that compute them: HL, a push, a conditional call taken and not
taken. -/
theorem test_instrStores :
    let s := { State.reset with h := 0x21, sp := 0x2400 }
    instrStores .inrM s = [0x2100] ∧ instrStores .pushPsw s = [0x23FF, 0x23FE] ∧
    instrStores (.cz 0x0200) s = [0x23FF, 0x23FE] ∧ instrStores (.cnz 0x0200) s = [] ∧
    instrWrites (.cnz 0x0200) s = [.pc] ∧ instrStores .xthl s = [0x2400, 0x2401] := by decide

/-- Obligations.InteReadByNothing, EI and NOP. -/
theorem test_witness_inteReadByNothing :
    let s := code [0xFB] State.reset
    step s = .next (after s) ∧ step { s with inte := false } = .next (after s) ∧
    step State.reset = .next (after State.reset) := ⟨rfl, rfl, rfl⟩

/-- Obligations.WordsAreLittleEndian, an address whose word wraps from the last index to the first. -/
theorem test_witness_wordsAreLittleEndian :
    (0xFFFF : Word).toNat % memSize State.reset.cfg = memSize State.reset.cfg - 1 ∧
    (memWriteWord 0xFFFF 0x1234 State.reset).mem = [(0, 0x12), (0x3FFF, 0x34)] := by decide

/-- Obligations.DecimalAdditionByDaa, 99 + 99 + 1. -/
theorem test_witness_decimalAdditionByDaa :
    let s := { State.reset with a := 0x99 }
    s.a = BitVec.ofNat 8 (99 / 10 * 16 + 99 % 10) ∧ (99 : Nat) < 100 ∧ s.flags.cy = true ∧
    (after (code [0x27] (after (code [0xCE, 0x99] s)))).a = 0x99 := by decide

/-- Obligations.CallThenReturn, with the return straight after the call. -/
theorem test_witness_callThenReturn :
    let s := { State.reset with pc := 0x0101, sp := 0x2400 }
    exec (.call 0x0200) s = .next (callTo 0x0200 s) ∧
    exec .ret (callTo 0x0200 s) = .next (returnFrom (callTo 0x0200 s)) ∧
    (returnFrom (callTo 0x0200 s)).pc = 0x0103 ∧ (returnFrom (callTo 0x0200 s)).sp = 0x2400 :=
  ⟨rfl, rfl, by decide, by decide⟩

/-- Obligations.PopThenPushPsw, both orders. -/
theorem test_witness_popThenPushPsw :
    let s := poke 0x2400 0xFF { State.reset with sp := 0x2400 }
    exec .pushPsw s = .next (push .psw s) ∧ exec .popPsw (push .psw s) = .next (pop .psw (push .psw s)) ∧
    exec .popPsw s = .next (pop .psw s) ∧ exec .pushPsw (pop .psw s) = .next (push .psw (pop .psw s)) ∧
    memRead (push .psw (pop .psw s)) 0x2400 = 0xD7 :=
  ⟨rfl, rfl, rfl, rfl, by decide⟩

/-- Obligations.UndocumentedTakeTheFault. -/
theorem test_witness_undocumentedTakeTheFault :
    Instr.undocumentedFD ∈ Instr.undocumented ∧ Instr.undocumented.length = 12 := by decide

/-- The conditional forms of Jumps, CallsAndRestarts and Returns: a state where the condition holds, one where it does
not. -/
theorem test_witness_conditions :
    State.reset.flags.holds .z = true ∧ State.reset.flags.holds .nz = false ∧ State.reset.flags.holds .m = true ∧
    State.reset.flags.holds .p = false := by decide

/-! ## How a program comes to run (log entry 6): the source's scenarios S1 to S3 from a launch -/

theorem test_s1_lxi_b :
    ∃ s, launch Config.default [0x01, 0x34, 0x12, 0x00] = .ok s ∧ (after s).c = 0x34 ∧ (after s).b = 0x12 ∧
      (after s).pc = 3 := ⟨_, rfl, by decide, by decide, by decide⟩

theorem test_s2_lxi_sp :
    ∃ s, launch Config.default [0x31, 0x00, 0x20] = .ok s ∧ (after s).sp = 0x2000 ∧ (after s).pc = 3 :=
  ⟨_, rfl, by decide, by decide⟩

theorem test_s3_unimplemented :
    ∃ s, launch { Config.default with withheld := [0x02] } [0x02] = .ok s ∧
      after s = { s with pc := 1, run := .haltedFault, fault := some ⟨0x02, 0x0000⟩ } :=
  ⟨_, rfl, by decide⟩

theorem test_report :
    report State.reset = some .continues ∧ report (after (code [0x76] State.reset)) = some .halted ∧
    report (after (code [0x08] State.reset)) = some (.faulted 0x08 0x0000) ∧
    ended (after (code [0x76] State.reset)) = true ∧ ended State.reset = false := by decide

end Sys2Proof.Tests
end

section
/-! What exec and step can answer, said once as two relations: Executes, one case per pattern of instruction, and StepsTo,
one case per way a step goes. Later proofs split along them and unfold neither exec nor step. -/

namespace Sys2Proof.Machine

/-! ## exec -/

/-- The shared operation of an ALU code (spec/30_encoding.md R97), with `k` operand bytes. -/
def runAlu (op : AluOp) (v : Byte) (k : Nat) (s : State) : State :=
  match op with
  | .add => addTo v k s
  | .adc => addWithCarry v k s
  | .sub => subtractFrom v k s
  | .sbb => subtractWithBorrow v k s
  | .ana => andWith v k s
  | .xra => xorWith v k s
  | .ora => orWith v k s
  | .cmp => compareWith v k s

theorem exec_ofAlu (op : AluOp) (o : Operand) (s : State) :
    exec (Instr.ofAlu op o) s = .next (runAlu op (readOperand o s) 0 s) := by
  cases op with
  | add => exact exec_ofAlu_add o s
  | adc => exact exec_ofAlu_adc o s
  | sub => exact exec_ofAlu_sub o s
  | sbb => exact exec_ofAlu_sbb o s
  | ana => exact exec_ofAlu_ana o s
  | xra => exact exec_ofAlu_xra o s
  | ora => exact exec_ofAlu_ora o s
  | cmp => exact exec_ofAlu_cmp o s

theorem exec_ofAluImm (op : AluOp) (d8 : Byte) (s : State) :
    exec (Instr.ofAluImm op d8) s = .next (runAlu op d8 1 s) := by
  cases op <;> rfl

/-- Membership in the list of the twelve undocumented terms, as a case split. -/
theorem forall_undocumented {motive : Instr → Prop} (h08 : motive .undocumented08) (h10 : motive .undocumented10)
    (h18 : motive .undocumented18) (h20 : motive .undocumented20) (h28 : motive .undocumented28)
    (h30 : motive .undocumented30) (h38 : motive .undocumented38) (hCB : motive .undocumentedCB)
    (hD9 : motive .undocumentedD9) (hDD : motive .undocumentedDD) (hED : motive .undocumentedED)
    (hFD : motive .undocumentedFD) : ∀ i ∈ Instr.undocumented, motive i := by
  simp only [Instr.undocumented, List.forall_mem_cons, List.not_mem_nil, false_imp_iff, implies_true, and_true]
  exact ⟨h08, h10, h18, h20, h28, h30, h38, hCB, hD9, hDD, hED, hFD⟩

/-- An undocumented term takes the fault with its own byte (spec/30_encoding.md R105). -/
theorem exec_undocumented (s : State) :
    ∀ i ∈ Instr.undocumented, exec i s = .next (takeUnimplemented i.opcode s) :=
  forall_undocumented rfl rfl rfl rfl rfl rfl rfl rfl rfl rfl rfl rfl

/-- `Executes s i t`: executing `i` in `s` ends in `t`. One case per pattern of spec/30_encoding.md R100 to R103, each
with the shared operation that is its meaning; `exec_eq_next_iff` ties it to exec. -/
inductive Executes (s : State) : Instr → State → Prop where
  | mov (dst src : Operand) (h : ¬(dst = .m ∧ src = .m)) : Executes s (.ofMov dst src) (move dst src s)
  | alu (op : AluOp) (o : Operand) : Executes s (.ofAlu op o) (runAlu op (readOperand o s) 0 s)
  | aluImm (op : AluOp) (d8 : Byte) : Executes s (.ofAluImm op d8) (runAlu op d8 1 s)
  | inr (o : Operand) : Executes s (.ofInr o) (increment o s)
  | dcr (o : Operand) : Executes s (.ofDcr o) (decrement o s)
  | mvi (o : Operand) (d8 : Byte) : Executes s (.ofMvi o d8) (moveImmediate o d8 s)
  | lxi (k : RegPair) (d16 : Word) : Executes s (.ofLxi k d16) (loadPairImmediate k d16 s)
  | inx (k : RegPair) : Executes s (.ofInx k) (incrementPair k s)
  | dcx (k : RegPair) : Executes s (.ofDcx k) (decrementPair k s)
  | dad (k : RegPair) : Executes s (.ofDad k) (addPairToHL k s)
  | stax (k : IndexPair) : Executes s (.ofStax k) (storeAccIndirect k s)
  | ldax (k : IndexPair) : Executes s (.ofLdax k) (loadAccIndirect k s)
  | push (k : StackPair) : Executes s (.ofPush k) (push k s)
  | pop (k : StackPair) : Executes s (.ofPop k) (pop k s)
  | jcc (k : Cond) (a16 : Word) : Executes s (.ofJcc k a16) (jumpIf k a16 s)
  | ccc (k : Cond) (a16 : Word) : Executes s (.ofCcc k a16) (callIf k a16 s)
  | rcc (k : Cond) : Executes s (.ofRcc k) (returnIf k s)
  | rst (n : Fin 8) : Executes s (.ofRst n) (restart n.val s)
  | shld (a16 : Word) : Executes s (.shld a16) (storeHLDirect a16 s)
  | lhld (a16 : Word) : Executes s (.lhld a16) (loadHLDirect a16 s)
  | sta (a16 : Word) : Executes s (.sta a16) (storeAccDirect a16 s)
  | lda (a16 : Word) : Executes s (.lda a16) (loadAccDirect a16 s)
  | jmp (a16 : Word) : Executes s (.jmp a16) (jumpTo a16 s)
  | call (a16 : Word) : Executes s (.call a16) (callTo a16 s)
  | outPort (p8 : Byte) : Executes s (.outPort p8) (output p8 s)
  | inPort (p8 : Byte) : Executes s (.inPort p8) (input p8 s)
  | nop : Executes s .nop (noOperation s)
  | rlc : Executes s .rlc (rotateLeft s)
  | rrc : Executes s .rrc (rotateRight s)
  | ral : Executes s .ral (rotateLeftThroughCarry s)
  | rar : Executes s .rar (rotateRightThroughCarry s)
  | daa : Executes s .daa (decimalAdjust s)
  | cma : Executes s .cma (complementAcc s)
  | stc : Executes s .stc (setCarry s)
  | cmc : Executes s .cmc (complementCarry s)
  | hlt : Executes s .hlt (halt s)
  | ret : Executes s .ret (returnFrom s)
  | xthl : Executes s .xthl (exchangeStackTop s)
  | pchl : Executes s .pchl (jumpToHL s)
  | xchg : Executes s .xchg (exchangeHLDE s)
  | di : Executes s .di (disableInterrupts s)
  | sphl : Executes s .sphl (stackFromHL s)
  | ei : Executes s .ei (enableInterrupts s)
  | undocumented (i : Instr) (h : i ∈ Instr.undocumented) : Executes s i (takeUnimplemented i.opcode s)

/-- Every instruction has a case of Executes. -/
theorem exists_executes (i : Instr) (s : State) : ∃ t, Executes s i t := by
  induction i using instr_byPattern with
  | ofMov dst src h => exact ⟨_, .mov dst src h⟩
  | ofAlu op o => exact ⟨_, .alu op o⟩
  | ofAluImm op d8 => exact ⟨_, .aluImm op d8⟩
  | ofInr o => exact ⟨_, .inr o⟩
  | ofDcr o => exact ⟨_, .dcr o⟩
  | ofMvi o d8 => exact ⟨_, .mvi o d8⟩
  | ofLxi k d16 => exact ⟨_, .lxi k d16⟩
  | ofInx k => exact ⟨_, .inx k⟩
  | ofDcx k => exact ⟨_, .dcx k⟩
  | ofDad k => exact ⟨_, .dad k⟩
  | ofStax k => exact ⟨_, .stax k⟩
  | ofLdax k => exact ⟨_, .ldax k⟩
  | ofPush k => exact ⟨_, .push k⟩
  | ofPop k => exact ⟨_, .pop k⟩
  | ofJcc k a16 => exact ⟨_, .jcc k a16⟩
  | ofCcc k a16 => exact ⟨_, .ccc k a16⟩
  | ofRcc k => exact ⟨_, .rcc k⟩
  | ofRst n => exact ⟨_, .rst n⟩
  | shld a16 => exact ⟨_, .shld a16⟩
  | lhld a16 => exact ⟨_, .lhld a16⟩
  | sta a16 => exact ⟨_, .sta a16⟩
  | lda a16 => exact ⟨_, .lda a16⟩
  | jmp a16 => exact ⟨_, .jmp a16⟩
  | call a16 => exact ⟨_, .call a16⟩
  | outPort p8 => exact ⟨_, .outPort p8⟩
  | inPort p8 => exact ⟨_, .inPort p8⟩
  | nop => exact ⟨_, .nop⟩
  | rlc => exact ⟨_, .rlc⟩
  | rrc => exact ⟨_, .rrc⟩
  | ral => exact ⟨_, .ral⟩
  | rar => exact ⟨_, .rar⟩
  | daa => exact ⟨_, .daa⟩
  | cma => exact ⟨_, .cma⟩
  | stc => exact ⟨_, .stc⟩
  | cmc => exact ⟨_, .cmc⟩
  | hlt => exact ⟨_, .hlt⟩
  | ret => exact ⟨_, .ret⟩
  | xthl => exact ⟨_, .xthl⟩
  | pchl => exact ⟨_, .pchl⟩
  | xchg => exact ⟨_, .xchg⟩
  | di => exact ⟨_, .di⟩
  | sphl => exact ⟨_, .sphl⟩
  | ei => exact ⟨_, .ei⟩
  | undocumented i h => exact ⟨_, .undocumented i h⟩

theorem Executes.exec_eq {s t : State} {i : Instr} (h : Executes s i t) : exec i s = .next t := by
  cases h with
  | mov dst src h => exact exec_ofMov dst src s h
  | alu op o => exact exec_ofAlu op o s
  | aluImm op d8 => exact exec_ofAluImm op d8 s
  | inr o => exact exec_ofInr o s
  | dcr o => exact exec_ofDcr o s
  | mvi o d8 => exact exec_ofMvi o d8 s
  | lxi k d16 => exact exec_ofLxi k d16 s
  | inx k => exact exec_ofInx k s
  | dcx k => exact exec_ofDcx k s
  | dad k => exact exec_ofDad k s
  | stax k => exact exec_ofStax k s
  | ldax k => exact exec_ofLdax k s
  | push k => exact exec_ofPush k s
  | pop k => exact exec_ofPop k s
  | jcc k a16 => exact exec_ofJcc k a16 s
  | ccc k a16 => exact exec_ofCcc k a16 s
  | rcc k => exact exec_ofRcc k s
  | rst n => exact exec_ofRst n s
  | undocumented i h => exact exec_undocumented s i h
  | _ => rfl

/-- What exec can answer: the cases of Executes, and nothing else. -/
theorem exec_eq_next_iff {i : Instr} {s t : State} : exec i s = .next t ↔ Executes s i t := by
  refine ⟨fun h => ?_, Executes.exec_eq⟩
  obtain ⟨u, hu⟩ := exists_executes i s
  obtain rfl : u = t := Host.Outcome.next.inj (hu.exec_eq.symm.trans h)
  exact hu

/-! ## step -/

/-- `StepsTo s t`: a step from `s` ends in `t`. One case per way through spec/30_encoding.md R110; `step_eq_next_iff`
ties it to step. -/
inductive StepsTo (s : State) : State → Prop where
  /-- no step of the hardware: the state is returned (log entry 3) -/
  | halted (hrun : s.run ≠ .running) : StepsTo s s
  /-- the bound check (spec/60_exceptions.md R275) -/
  | bound (hrun : s.run = .running) (hlimit : atPcLimit s = true) : StepsTo s (haltNormal s)
  /-- the implemented gate (spec/60_exceptions.md R272) -/
  | gate (hrun : s.run = .running) (hlimit : atPcLimit s = false) (himpl : implemented s.cfg (fetch s).op = false) :
      StepsTo s (raiseUnimplementedOpcode (fetch s).op s.pc (preIncrement s))
  /-- decode and execute -/
  | executes {t : State} (hrun : s.run = .running) (hlimit : atPcLimit s = false)
      (himpl : implemented s.cfg (fetch s).op = true)
      (h : Executes (preIncrement s) (decodeOp (fetch s).op (fetch s).b1 (fetch s).b2) t) : StepsTo s t

theorem exists_stepsTo (s : State) : ∃ t, StepsTo s t := by
  by_cases hrun : s.run = .running
  · cases hlimit : atPcLimit s with
    | true => exact ⟨_, .bound hrun hlimit⟩
    | false =>
      cases himpl : implemented s.cfg (fetch s).op with
      | true => exact (exists_executes _ _).imp fun _ => .executes hrun hlimit himpl
      | false => exact ⟨_, .gate hrun hlimit himpl⟩
  · exact ⟨s, .halted hrun⟩

theorem StepsTo.step_eq {s t : State} (h : StepsTo s t) : step s = .next t := by
  cases h with
  | halted hrun =>
    unfold step
    cases hr : s.run with
    | running => exact absurd hr hrun
    | haltedNormal => rfl
    | haltedFault => rfl
  | bound hrun hlimit => simp [step, hrun, hlimit]
  | gate hrun hlimit himpl => simp [step, runInstruction, hrun, hlimit, himpl]
  | executes hrun hlimit himpl h => simp [step, runInstruction, hrun, hlimit, himpl, h.exec_eq]

/-- What a step can answer: the cases of StepsTo, and nothing else. -/
theorem step_eq_next_iff {s t : State} : step s = .next t ↔ StepsTo s t := by
  refine ⟨fun h => ?_, StepsTo.step_eq⟩
  obtain ⟨u, hu⟩ := exists_stepsTo s
  obtain rfl : u = t := Host.Outcome.next.inj (hu.step_eq.symm.trans h)
  exact hu

end Sys2Proof.Machine
end

section
/-! The frame of each shared operation, and that of every instruction. -/

namespace Sys2Proof.Machine

/-! ## Using a frame -/

section
variable {p : List Part} {s t : State} (h : UnchangedExcept p s t)
include h

theorem UnchangedExcept.run_eq (hx : .run ∉ p) : t.run = s.run := by
  obtain ⟨-, -, -, -, -, -, -, -, -, -, hrun, -⟩ := h
  exact hrun hx

theorem UnchangedExcept.fault_eq (hx : .fault ∉ p) : t.fault = s.fault := by
  obtain ⟨-, -, -, -, -, -, -, -, -, -, -, hfault, -⟩ := h
  exact hfault hx

theorem UnchangedExcept.io_eq (hx : .io ∉ p) : t.io = s.io := by
  obtain ⟨-, -, -, -, -, -, -, -, -, -, -, -, hio, -⟩ := h
  exact hio hx

theorem UnchangedExcept.cfg_eq : t.cfg = s.cfg := by
  obtain ⟨-, -, -, -, -, -, -, -, -, -, -, -, -, hcfg⟩ := h
  exact hcfg

/-- Moving PC at the end adds PC to the frame. -/
theorem UnchangedExcept.goTo (target : Word) : UnchangedExcept (.pc :: p) s (goTo target t) :=
  (h.trans (frame_goTo target t)).mono (by simp)

theorem UnchangedExcept.advance (k : Nat) : UnchangedExcept (.pc :: p) s (advance k t) := h.goTo _

end

/-! ## Data transfer -/

/-- The part that writing an operand changes (spec/30_encoding.md R94). -/
def operandPart : Operand → Part
  | .reg r => .reg r
  | .m => .mem

theorem frame_writeOperand (o : Operand) (v : Byte) (s : State) :
    UnchangedExcept [operandPart o] s (writeOperand o v s) := by
  cases o with
  | reg r => exact frame_setReg r v s
  | m => exact frame_memWrite s.hl v s

theorem frame_setHL (w : Word) (s : State) : UnchangedExcept [.reg .h, .reg .l] s (s.setHL w) := frame_setPair .hl w s

theorem frame_move (dst src : Operand) (s : State) : UnchangedExcept [.pc, operandPart dst] s (move dst src s) :=
  (frame_writeOperand dst _ s).advance 0

theorem frame_moveImmediate (dst : Operand) (d8 : Byte) (s : State) :
    UnchangedExcept [.pc, operandPart dst] s (moveImmediate dst d8 s) :=
  (frame_writeOperand dst d8 s).advance 1

theorem frame_loadPairImmediate (k : RegPair) (d16 : Word) (s : State) :
    UnchangedExcept (.pc :: pairParts k) s (loadPairImmediate k d16 s) :=
  (frame_setPair k d16 s).advance 2

theorem frame_loadAccDirect (a16 : Word) (s : State) : UnchangedExcept [.pc, .reg .a] s (loadAccDirect a16 s) :=
  (frame_setReg .a _ s).advance 2

theorem frame_storeAccDirect (a16 : Word) (s : State) : UnchangedExcept [.pc, .mem] s (storeAccDirect a16 s) :=
  (frame_memWrite a16 s.a s).advance 2

theorem frame_loadHLDirect (a16 : Word) (s : State) :
    UnchangedExcept [.pc, .reg .h, .reg .l] s (loadHLDirect a16 s) :=
  (frame_setHL _ s).advance 2

theorem frame_storeHLDirect (a16 : Word) (s : State) : UnchangedExcept [.pc, .mem] s (storeHLDirect a16 s) :=
  (frame_memWriteWord a16 s.hl s).advance 2

theorem frame_loadAccIndirect (k : IndexPair) (s : State) : UnchangedExcept [.pc, .reg .a] s (loadAccIndirect k s) :=
  (frame_setReg .a _ s).advance 0

theorem frame_storeAccIndirect (k : IndexPair) (s : State) : UnchangedExcept [.pc, .mem] s (storeAccIndirect k s) :=
  (frame_memWrite _ s.a s).advance 0

theorem frame_exchangeHLDE (s : State) :
    UnchangedExcept [.pc, .reg .h, .reg .l, .reg .d, .reg .e] s (exchangeHLDE s) := by
  have h : UnchangedExcept [.reg .h, .reg .l, .reg .d, .reg .e] s { s with h := s.d, l := s.e, d := s.h, e := s.l } := by
    refine ⟨fun r => ?_, ?_⟩
    · cases r <;> simp
    · simp [memRead, State.index]
  exact h.advance 0

/-! ## Arithmetic and logic -/

theorem frame_accumulate (r : AluResult) (k : Nat) (s : State) :
    UnchangedExcept (.pc :: .reg .a :: flagParts) s (advance k (setAccumulator r s)) :=
  (frame_setAccumulator r s).advance k

/-- The parts an ALU operation writes: CMP leaves A (spec/42_logical.md R187). -/
def aluParts : AluOp → List Part
  | .cmp => .pc :: flagParts
  | _ => .pc :: .reg .a :: flagParts

theorem frame_runAlu (op : AluOp) (v : Byte) (k : Nat) (s : State) :
    UnchangedExcept (aluParts op) s (runAlu op v k s) := by
  cases op with
  | cmp => exact (frame_setFlagsOnly _ s).advance k
  | _ => exact frame_accumulate _ k s

theorem frame_decimalAdjust (s : State) : UnchangedExcept (.pc :: .reg .a :: flagParts) s (decimalAdjust s) :=
  frame_accumulate _ 0 s

/-- An update of the flags alone that keeps CY. -/
theorem frame_setFlagsOnly_keepCY (r : AluResult) (s : State) (h : r.flags.cy = s.flags.cy) :
    UnchangedExcept [.z, .s, .p, .ac] s (setFlagsOnly r s) := by
  simp [UnchangedExcept, h]

theorem frame_increment (o : Operand) (s : State) :
    UnchangedExcept [.pc, operandPart o, .z, .s, .p, .ac] s (increment o s) :=
  ((frame_writeOperand o _ s).trans (frame_setFlagsOnly_keepCY _ _ (by simp [inc8, zsp]))).advance 0

theorem frame_decrement (o : Operand) (s : State) :
    UnchangedExcept [.pc, operandPart o, .z, .s, .p, .ac] s (decrement o s) :=
  ((frame_writeOperand o _ s).trans (frame_setFlagsOnly_keepCY _ _ (by simp [dec8, zsp]))).advance 0

theorem frame_incrementPair (k : RegPair) (s : State) : UnchangedExcept (.pc :: pairParts k) s (incrementPair k s) :=
  (frame_setPair k _ s).advance 0

theorem frame_decrementPair (k : RegPair) (s : State) : UnchangedExcept (.pc :: pairParts k) s (decrementPair k s) :=
  (frame_setPair k _ s).advance 0

theorem frame_setCY (cy : Bool) (s : State) :
    UnchangedExcept [.cy] s { s with flags := { s.flags with cy := cy } } := by
  refine ⟨fun r => ?_, ?_⟩
  · cases r <;> simp
  · simp [memRead, State.index]

theorem frame_addPairToHL (k : RegPair) (s : State) :
    UnchangedExcept [.pc, .reg .h, .reg .l, .cy] s (addPairToHL k s) :=
  ((frame_setHL _ s).trans (frame_setCY _ _)).advance 0

theorem frame_rotateLeft (s : State) : UnchangedExcept [.pc, .reg .a, .cy] s (rotateLeft s) :=
  (frame_setRotated _ _ s).advance 0

theorem frame_rotateRight (s : State) : UnchangedExcept [.pc, .reg .a, .cy] s (rotateRight s) :=
  (frame_setRotated _ _ s).advance 0

theorem frame_rotateLeftThroughCarry (s : State) :
    UnchangedExcept [.pc, .reg .a, .cy] s (rotateLeftThroughCarry s) :=
  (frame_setRotated _ _ s).advance 0

theorem frame_rotateRightThroughCarry (s : State) :
    UnchangedExcept [.pc, .reg .a, .cy] s (rotateRightThroughCarry s) :=
  (frame_setRotated _ _ s).advance 0

theorem frame_complementAcc (s : State) : UnchangedExcept [.pc, .reg .a] s (complementAcc s) :=
  (frame_setReg .a _ s).advance 0

theorem frame_setCarry (s : State) : UnchangedExcept [.pc, .cy] s (setCarry s) := (frame_setCY true s).advance 0

theorem frame_complementCarry (s : State) : UnchangedExcept [.pc, .cy] s (complementCarry s) :=
  (frame_setCY _ s).advance 0

/-! ## Branches -/

theorem frame_jumpTo (a16 : Word) (s : State) : UnchangedExcept [.pc] s (jumpTo a16 s) := frame_goTo a16 s

theorem frame_jumpIf (k : Cond) (a16 : Word) (s : State) : UnchangedExcept [.pc] s (jumpIf k a16 s) := by
  unfold jumpIf
  split
  · exact frame_jumpTo a16 s
  · exact frame_advance 2 s

theorem frame_callTo (a16 : Word) (s : State) : UnchangedExcept [.pc, .sp, .mem] s (callTo a16 s) :=
  (frame_push16 _ s).goTo a16

theorem frame_callIf (k : Cond) (a16 : Word) (s : State) :
    UnchangedExcept (.pc :: if s.flags.holds k then [.sp, .mem] else []) s (callIf k a16 s) := by
  unfold callIf
  split
  · exact frame_callTo a16 s
  · exact frame_advance 2 s

theorem frame_returnFrom (s : State) : UnchangedExcept [.pc, .sp] s (returnFrom s) := (frame_dropWord s).goTo _

theorem frame_returnIf (k : Cond) (s : State) :
    UnchangedExcept (.pc :: if s.flags.holds k then [.sp] else []) s (returnIf k s) := by
  unfold returnIf
  split
  · exact frame_returnFrom s
  · exact frame_advance 0 s

theorem frame_restart (n : Nat) (s : State) : UnchangedExcept [.pc, .sp, .mem] s (restart n s) :=
  (frame_push16 _ s).goTo _

theorem frame_jumpToHL (s : State) : UnchangedExcept [.pc] s (jumpToHL s) := frame_goTo s.hl s

/-! ## Stack, ports, machine control -/

theorem frame_push (k : StackPair) (s : State) : UnchangedExcept [.pc, .sp, .mem] s (push k s) :=
  (frame_push16 _ s).advance 0

/-- The parts POP writes besides PC and SP (spec/44_stack_io_control.md R243, R244). -/
def stackPairParts : StackPair → List Part
  | .bc => [.reg .b, .reg .c]
  | .de => [.reg .d, .reg .e]
  | .hl => [.reg .h, .reg .l]
  | .psw => .reg .a :: flagParts

theorem frame_setStackPair (k : StackPair) (w : Word) (s : State) :
    UnchangedExcept (stackPairParts k) s (s.setStackPair k w) := by
  cases k with
  | bc => exact frame_setPair .bc w s
  | de => exact frame_setPair .de w s
  | hl => exact frame_setPair .hl w s
  | psw => exact frame_setAccumulator ⟨highByte w, flagsOfByte (lowByte w)⟩ s

theorem frame_pop (k : StackPair) (s : State) : UnchangedExcept (.pc :: .sp :: stackPairParts k) s (pop k s) :=
  ((frame_dropWord s).trans (frame_setStackPair k _ _)).advance 0

theorem frame_exchangeStackTop (s : State) :
    UnchangedExcept [.pc, .reg .h, .reg .l, .mem] s (exchangeStackTop s) :=
  (((frame_memWriteWord s.sp s.hl s).trans (frame_setHL _ _)).advance 0).mono (by decide)

theorem frame_stackFromHL (s : State) : UnchangedExcept [.pc, .sp] s (stackFromHL s) :=
  (frame_setPair .sp s.hl s).advance 0

theorem frame_input (p8 : Byte) (s : State) : UnchangedExcept [.pc, .reg .a, .io] s (input p8 s) :=
  ((frame_setReg .a _ s).trans (frame_recordIo _ _)).advance 1

theorem frame_output (p8 : Byte) (s : State) : UnchangedExcept [.pc, .io] s (output p8 s) :=
  (frame_recordIo _ s).advance 1

theorem frame_setInte (v : Bool) (s : State) : UnchangedExcept [.inte] s { s with inte := v } := by
  refine ⟨fun r => ?_, ?_⟩
  · cases r <;> simp
  · simp [memRead, State.index]

theorem frame_enableInterrupts (s : State) : UnchangedExcept [.pc, .inte] s (enableInterrupts s) :=
  (frame_setInte true s).advance 0

theorem frame_disableInterrupts (s : State) : UnchangedExcept [.pc, .inte] s (disableInterrupts s) :=
  (frame_setInte false s).advance 0

theorem frame_noOperation (s : State) : UnchangedExcept [.pc] s (noOperation s) := frame_advance 0 s

theorem frame_halt (s : State) : UnchangedExcept [.pc, .run] s (halt s) :=
  (frame_advance 0 s).trans (frame_haltNormal _)

theorem frame_takeUnimplemented (op : Byte) (s : State) : UnchangedExcept [.run, .fault] s (takeUnimplemented op s) :=
  frame_raiseUnimplementedOpcode op _ s

/-! ## The parts of instrWrites, by pattern -/

section
variable (s : State)

@[simp] theorem instrWrites_ofMov (dst src : Operand) (h : ¬(dst = .m ∧ src = .m)) :
    instrWrites (.ofMov dst src) s = [.pc, operandPart dst] := by
  cases dst with
  | reg r =>
    cases src with
    | reg q => cases r <;> cases q <;> rfl
    | m => cases r <;> rfl
  | m =>
    cases src with
    | reg q => cases q <;> rfl
    | m => exact absurd ⟨rfl, rfl⟩ h

@[simp] theorem instrWrites_ofAlu (op : AluOp) (o : Operand) : instrWrites (.ofAlu op o) s = aluParts op := by
  cases o with
  | reg r => cases op <;> cases r <;> rfl
  | m => cases op <;> rfl

@[simp] theorem instrWrites_ofAluImm (op : AluOp) (d8 : Byte) : instrWrites (.ofAluImm op d8) s = aluParts op := by
  cases op <;> rfl

@[simp] theorem instrWrites_ofInr (o : Operand) :
    instrWrites (.ofInr o) s = [.pc, operandPart o, .z, .s, .p, .ac] := by
  cases o with
  | reg r => cases r <;> rfl
  | m => rfl

@[simp] theorem instrWrites_ofDcr (o : Operand) :
    instrWrites (.ofDcr o) s = [.pc, operandPart o, .z, .s, .p, .ac] := by
  cases o with
  | reg r => cases r <;> rfl
  | m => rfl

@[simp] theorem instrWrites_ofMvi (o : Operand) (d8 : Byte) : instrWrites (.ofMvi o d8) s = [.pc, operandPart o] := by
  cases o with
  | reg r => cases r <;> rfl
  | m => rfl

@[simp] theorem instrWrites_ofLxi (k : RegPair) (d16 : Word) :
    instrWrites (.ofLxi k d16) s = .pc :: pairParts k := by cases k <;> rfl

@[simp] theorem instrWrites_ofInx (k : RegPair) : instrWrites (.ofInx k) s = .pc :: pairParts k := by cases k <;> rfl

@[simp] theorem instrWrites_ofDcx (k : RegPair) : instrWrites (.ofDcx k) s = .pc :: pairParts k := by cases k <;> rfl

@[simp] theorem instrWrites_ofDad (k : RegPair) : instrWrites (.ofDad k) s = [.pc, .reg .h, .reg .l, .cy] := by
  cases k <;> rfl

@[simp] theorem instrWrites_ofStax (k : IndexPair) : instrWrites (.ofStax k) s = [.pc, .mem] := by cases k <;> rfl

@[simp] theorem instrWrites_ofLdax (k : IndexPair) : instrWrites (.ofLdax k) s = [.pc, .reg .a] := by cases k <;> rfl

@[simp] theorem instrWrites_ofPush (k : StackPair) : instrWrites (.ofPush k) s = [.pc, .sp, .mem] := by
  cases k <;> rfl

@[simp] theorem instrWrites_ofPop (k : StackPair) : instrWrites (.ofPop k) s = .pc :: .sp :: stackPairParts k := by
  cases k <;> rfl

@[simp] theorem instrWrites_ofJcc (k : Cond) (a16 : Word) : instrWrites (.ofJcc k a16) s = [.pc] := by cases k <;> rfl

@[simp] theorem instrWrites_ofCcc (k : Cond) (a16 : Word) :
    instrWrites (.ofCcc k a16) s = .pc :: if s.flags.holds k then [.sp, .mem] else [] := by
  cases k <;> exact (apply_ite (List.cons Part.pc) _ _ _).symm

@[simp] theorem instrWrites_ofRcc (k : Cond) :
    instrWrites (.ofRcc k) s = .pc :: if s.flags.holds k then [.sp] else [] := by
  cases k <;> exact (apply_ite (List.cons Part.pc) _ _ _).symm

@[simp] theorem instrWrites_ofRst (n : Fin 8) : instrWrites (.ofRst n) s = [.pc, .sp, .mem] := by
  match n with
  | 0 | 1 | 2 | 3 | 4 | 5 | 6 | 7 => rfl

theorem instrWrites_undocumented : ∀ i ∈ Instr.undocumented, instrWrites i s = [.run, .fault] :=
  forall_undocumented rfl rfl rfl rfl rfl rfl rfl rfl rfl rfl rfl rfl

end

/-! ## The frame of every instruction -/

theorem Executes.frame {s t : State} {i : Instr} (h : Executes s i t) : UnchangedExcept (instrWrites i s) s t := by
  cases h with
  | mov dst src h => simpa [h] using frame_move dst src s
  | alu op o => simpa using frame_runAlu op _ 0 s
  | aluImm op d8 => simpa using frame_runAlu op d8 1 s
  | inr o => simpa using frame_increment o s
  | dcr o => simpa using frame_decrement o s
  | mvi o d8 => simpa using frame_moveImmediate o d8 s
  | lxi k d16 => simpa using frame_loadPairImmediate k d16 s
  | inx k => simpa using frame_incrementPair k s
  | dcx k => simpa using frame_decrementPair k s
  | dad k => simpa using frame_addPairToHL k s
  | stax k => simpa using frame_storeAccIndirect k s
  | ldax k => simpa using frame_loadAccIndirect k s
  | push k => simpa using frame_push k s
  | pop k => simpa using frame_pop k s
  | jcc k a16 => simpa using frame_jumpIf k a16 s
  | ccc k a16 => simpa using frame_callIf k a16 s
  | rcc k => simpa using frame_returnIf k s
  | rst n => simpa using frame_restart n.val s
  | shld a16 => exact frame_storeHLDirect a16 s
  | lhld a16 => exact frame_loadHLDirect a16 s
  | sta a16 => exact frame_storeAccDirect a16 s
  | lda a16 => exact frame_loadAccDirect a16 s
  | jmp a16 => exact frame_jumpTo a16 s
  | call a16 => exact frame_callTo a16 s
  | outPort p8 => exact frame_output p8 s
  | inPort p8 => exact frame_input p8 s
  | nop => exact frame_noOperation s
  | rlc => exact frame_rotateLeft s
  | rrc => exact frame_rotateRight s
  | ral => exact frame_rotateLeftThroughCarry s
  | rar => exact frame_rotateRightThroughCarry s
  | daa => exact frame_decimalAdjust s
  | cma => exact frame_complementAcc s
  | stc => exact frame_setCarry s
  | cmc => exact frame_complementCarry s
  | hlt => exact frame_halt s
  | ret => exact frame_returnFrom s
  | xthl => exact frame_exchangeStackTop s
  | pchl => exact frame_jumpToHL s
  | xchg => exact frame_exchangeHLDE s
  | di => exact frame_disableInterrupts s
  | sphl => exact frame_stackFromHL s
  | ei => exact frame_enableInterrupts s
  | undocumented i h => simpa [instrWrites_undocumented s i h] using frame_takeUnimplemented i.opcode s

end Sys2Proof.Machine
end

section
/-! The bytes of memory every instruction stores: the memory it leaves is the old one after byte stores at the addresses
of instrStores, in turn. The byte frame and the invariant of memory both follow from that. -/

namespace Sys2Proof.Machine

/-- `StoresInTurn addrs s t`: the memory of `t` is that of `s` after one `MemWrite` at each of the addresses, in turn. -/
inductive StoresInTurn : List Word → State → State → Prop where
  | done {s t : State} (hmem : t.mem = s.mem) (hcfg : t.cfg = s.cfg) : StoresInTurn [] s t
  | store {addrs : List Word} {s t : State} (addr : Word) (v : Byte) (h : StoresInTurn addrs (memWrite addr v s) t) :
      StoresInTurn (addr :: addrs) s t

/-- A change outside memory and the parameters after the stores. -/
theorem StoresInTurn.congr {addrs : List Word} {s t u : State} (h : StoresInTurn addrs s t) (hmem : u.mem = t.mem)
    (hcfg : u.cfg = t.cfg) : StoresInTurn addrs s u := by
  induction h with
  | done hm hc => exact .done (hmem.trans hm) (hcfg.trans hc)
  | store addr v _ ih => exact .store addr v (ih hmem hcfg)

theorem StoresInTurn.goTo {addrs : List Word} {s t : State} (h : StoresInTurn addrs s t) (target : Word) :
    StoresInTurn addrs s (goTo target t) := h.congr (goTo_mem t target) (goTo_cfg t target)

theorem StoresInTurn.advance {addrs : List Word} {s t : State} (h : StoresInTurn addrs s t) (k : Nat) :
    StoresInTurn addrs s (advance k t) := h.goTo _

/-- Every byte at another index is kept (spec/20_memory.md R61). -/
theorem StoresInTurn.onlyAt {addrs : List Word} {s t : State} (h : StoresInTurn addrs s t) :
    StoresOnlyAt addrs s t := by
  induction h with
  | done hmem hcfg => exact storesOnlyAt_of_same hmem hcfg []
  | @store addrs s t addr v _ ih =>
    intro at_ hat
    obtain ⟨hfirst, hrest⟩ := List.forall_mem_cons.mp hat
    calc memRead t at_ = memRead (memWrite addr v s) at_ := ih at_ hrest
      _ = memRead s at_ := by rw [memRead_memWrite, if_neg hfirst]

/-! ## The shared operations that store -/

theorem storesInTurn_memWrite (addr : Word) (v : Byte) (s : State) : StoresInTurn [addr] s (memWrite addr v s) :=
  .store addr v (.done rfl rfl)

theorem storesInTurn_memWriteWord (addr w : Word) (s : State) :
    StoresInTurn [addr, addr + 1] s (memWriteWord addr w s) :=
  .store addr (lowByte w) (.store (addr + 1) (highByte w) (.done rfl rfl))

theorem storesInTurn_push16 (w : Word) (s : State) : StoresInTurn s.pushAddresses s (push16 w s) :=
  .store (s.sp - 1) (highByte w) (.store (s.sp - 2) (lowByte w) (.done rfl rfl))

/-- The addresses that writing an operand stores to (spec/30_encoding.md R94). -/
def operandStores (o : Operand) (s : State) : List Word :=
  match o with
  | .reg _ => []
  | .m => [s.hl]

theorem storesInTurn_writeOperand (o : Operand) (v : Byte) (s : State) :
    StoresInTurn (operandStores o s) s (writeOperand o v s) := by
  cases o with
  | reg r => exact .done (setReg_mem s r v) (setReg_cfg s r v)
  | m => exact storesInTurn_memWrite s.hl v s

/-- INR and DCR: the flags are written after the operand. -/
theorem storesInTurn_writeOperand_setFlagsOnly (o : Operand) (r : AluResult) (s : State) :
    StoresInTurn (operandStores o s) s (setFlagsOnly r (writeOperand o r.res s)) :=
  (storesInTurn_writeOperand o r.res s).congr (setFlagsOnly_mem _ r) (setFlagsOnly_cfg _ r)

theorem storesInTurn_callTo (a16 : Word) (s : State) : StoresInTurn s.pushAddresses s (callTo a16 s) :=
  (storesInTurn_push16 _ s).goTo a16

theorem storesInTurn_callIf (k : Cond) (a16 : Word) (s : State) :
    StoresInTurn (if s.flags.holds k then s.pushAddresses else []) s (callIf k a16 s) := by
  unfold callIf
  split
  · exact storesInTurn_callTo a16 s
  · exact .done (advance_mem s 2) (advance_cfg s 2)

theorem storesInTurn_exchangeStackTop (s : State) : StoresInTurn [s.sp, s.sp + 1] s (exchangeStackTop s) :=
  ((storesInTurn_memWriteWord s.sp s.hl s).congr (setHL_mem _ _) (setHL_cfg _ _)).advance 0

/-! ## The shared operations that leave memory alone -/

theorem runAlu_mem (op : AluOp) (v : Byte) (k : Nat) (s : State) : (runAlu op v k s).mem = s.mem := by
  cases op <;> rfl

theorem pop_mem (k : StackPair) (s : State) : (pop k s).mem = s.mem := by simp [pop]

theorem jumpIf_mem (k : Cond) (a16 : Word) (s : State) : (jumpIf k a16 s).mem = s.mem := by
  unfold jumpIf
  split <;> rfl

theorem returnIf_mem (k : Cond) (s : State) : (returnIf k s).mem = s.mem := by
  unfold returnIf
  split <;> rfl

/-! ## The addresses of instrStores, by pattern -/

section
variable (s : State)

theorem instrStores_ofMov (dst src : Operand) (h : ¬(dst = .m ∧ src = .m)) :
    instrStores (.ofMov dst src) s = operandStores dst s := by
  cases dst with
  | reg r =>
    cases src with
    | reg q => cases r <;> cases q <;> rfl
    | m => cases r <;> rfl
  | m =>
    cases src with
    | reg q => cases q <;> rfl
    | m => exact absurd ⟨rfl, rfl⟩ h

theorem instrStores_ofAlu (op : AluOp) (o : Operand) : instrStores (.ofAlu op o) s = [] := by
  cases o with
  | reg r => cases op <;> cases r <;> rfl
  | m => cases op <;> rfl

theorem instrStores_ofAluImm (op : AluOp) (d8 : Byte) : instrStores (.ofAluImm op d8) s = [] := by cases op <;> rfl

theorem instrStores_ofInr (o : Operand) : instrStores (.ofInr o) s = operandStores o s := by
  cases o with
  | reg r => cases r <;> rfl
  | m => rfl

theorem instrStores_ofDcr (o : Operand) : instrStores (.ofDcr o) s = operandStores o s := by
  cases o with
  | reg r => cases r <;> rfl
  | m => rfl

theorem instrStores_ofMvi (o : Operand) (d8 : Byte) : instrStores (.ofMvi o d8) s = operandStores o s := by
  cases o with
  | reg r => cases r <;> rfl
  | m => rfl

theorem instrStores_ofLxi (k : RegPair) (d16 : Word) : instrStores (.ofLxi k d16) s = [] := by cases k <;> rfl

theorem instrStores_ofInx (k : RegPair) : instrStores (.ofInx k) s = [] := by cases k <;> rfl

theorem instrStores_ofDcx (k : RegPair) : instrStores (.ofDcx k) s = [] := by cases k <;> rfl

theorem instrStores_ofDad (k : RegPair) : instrStores (.ofDad k) s = [] := by cases k <;> rfl

theorem instrStores_ofStax (k : IndexPair) : instrStores (.ofStax k) s = [s.indexAddress k] := by cases k <;> rfl

theorem instrStores_ofLdax (k : IndexPair) : instrStores (.ofLdax k) s = [] := by cases k <;> rfl

theorem instrStores_ofPush (k : StackPair) : instrStores (.ofPush k) s = s.pushAddresses := by cases k <;> rfl

theorem instrStores_ofPop (k : StackPair) : instrStores (.ofPop k) s = [] := by cases k <;> rfl

theorem instrStores_ofJcc (k : Cond) (a16 : Word) : instrStores (.ofJcc k a16) s = [] := by cases k <;> rfl

theorem instrStores_ofCcc (k : Cond) (a16 : Word) :
    instrStores (.ofCcc k a16) s = if s.flags.holds k then s.pushAddresses else [] := by cases k <;> rfl

theorem instrStores_ofRcc (k : Cond) : instrStores (.ofRcc k) s = [] := by cases k <;> rfl

theorem instrStores_ofRst (n : Fin 8) : instrStores (.ofRst n) s = s.pushAddresses := by
  match n with
  | 0 | 1 | 2 | 3 | 4 | 5 | 6 | 7 => rfl

theorem instrStores_undocumented : ∀ i ∈ Instr.undocumented, instrStores i s = [] :=
  forall_undocumented rfl rfl rfl rfl rfl rfl rfl rfl rfl rfl rfl rfl

end

/-! ## The stores of every instruction -/

theorem Executes.stores {s t : State} {i : Instr} (h : Executes s i t) : StoresInTurn (instrStores i s) s t := by
  have hcfg := h.frame.cfg_eq
  cases h with
  | mov dst src h =>
    rw [instrStores_ofMov s dst src h]
    exact (storesInTurn_writeOperand dst _ s).advance 0
  | alu op o =>
    rw [instrStores_ofAlu]
    exact .done (runAlu_mem op _ 0 s) hcfg
  | aluImm op d8 =>
    rw [instrStores_ofAluImm]
    exact .done (runAlu_mem op d8 1 s) hcfg
  | inr o =>
    rw [instrStores_ofInr]
    exact (storesInTurn_writeOperand_setFlagsOnly o _ s).advance 0
  | dcr o =>
    rw [instrStores_ofDcr]
    exact (storesInTurn_writeOperand_setFlagsOnly o _ s).advance 0
  | mvi o d8 =>
    rw [instrStores_ofMvi]
    exact (storesInTurn_writeOperand o d8 s).advance 1
  | lxi k d16 =>
    rw [instrStores_ofLxi]
    exact .done (setPair_mem s k d16) hcfg
  | inx k =>
    rw [instrStores_ofInx]
    exact .done (setPair_mem s k _) hcfg
  | dcx k =>
    rw [instrStores_ofDcx]
    exact .done (setPair_mem s k _) hcfg
  | dad k =>
    rw [instrStores_ofDad]
    exact .done (by simp [addPairToHL]) hcfg
  | stax k =>
    rw [instrStores_ofStax]
    exact (storesInTurn_memWrite _ s.a s).advance 0
  | ldax k =>
    rw [instrStores_ofLdax]
    exact .done (by simp [loadAccIndirect]) hcfg
  | push k =>
    rw [instrStores_ofPush]
    exact (storesInTurn_push16 _ s).advance 0
  | pop k =>
    rw [instrStores_ofPop]
    exact .done (pop_mem k s) hcfg
  | jcc k a16 =>
    rw [instrStores_ofJcc]
    exact .done (jumpIf_mem k a16 s) hcfg
  | ccc k a16 =>
    rw [instrStores_ofCcc]
    exact storesInTurn_callIf k a16 s
  | rcc k =>
    rw [instrStores_ofRcc]
    exact .done (returnIf_mem k s) hcfg
  | rst n =>
    rw [instrStores_ofRst]
    exact (storesInTurn_push16 _ s).goTo _
  | shld a16 => exact (storesInTurn_memWriteWord a16 s.hl s).advance 2
  | sta a16 => exact (storesInTurn_memWrite a16 s.a s).advance 2
  | call a16 => exact storesInTurn_callTo a16 s
  | xthl => exact storesInTurn_exchangeStackTop s
  | undocumented i h =>
    rw [instrStores_undocumented s i h]
    exact .done rfl hcfg
  | _ =>
    exact .done (by simp [loadHLDirect, loadAccDirect, jumpTo, output, input, noOperation, rotateLeft, rotateRight,
      rotateLeftThroughCarry, rotateRightThroughCarry, decimalAdjust, complementAcc, setCarry, complementCarry, halt,
      returnFrom, jumpToHL, exchangeHLDE, disableInterrupts, stackFromHL, enableInterrupts]) hcfg

end Sys2Proof.Machine
end

section
/-! What every step keeps: the invariant of memory and of the fault record, the parameters, and the history of port
accesses. -/

namespace Sys2Proof.Machine

/-! ## Memory -/

/-- The part of the invariant about memory: canonical form, and no cell outside the image (spec/10_state.md R34). -/
def State.MemInv (s : State) : Prop := Memory.wf s.mem ∧ ∀ cell ∈ s.mem, cell.1 < memSize s.cfg

theorem State.inv_iff (s : State) : s.Inv ↔ s.MemInv ∧ (s.fault.isSome = true ↔ s.run = .haltedFault) :=
  and_assoc.symm

theorem State.MemInv.congr {s t : State} (h : s.MemInv) (hmem : t.mem = s.mem) (hcfg : t.cfg = s.cfg) : t.MemInv := by
  unfold State.MemInv
  rw [hmem, hcfg]
  exact h

theorem State.MemInv.memWrite {s : State} (h : s.MemInv) (addr : Word) (v : Byte) : (memWrite addr v s).MemInv := by
  obtain ⟨hwf, hinside⟩ := h
  refine ⟨Memory.wf_write hwf _ v, fun cell hcell => ?_⟩
  rcases Memory.mem_write hcell with ⟨rfl, -⟩ | hold
  · exact index_lt s addr
  · exact hinside cell hold

theorem StoresInTurn.memInv {addrs : List Word} {s t : State} (h : StoresInTurn addrs s t) (hs : s.MemInv) :
    t.MemInv := by
  induction h with
  | done hmem hcfg => exact hs.congr hmem hcfg
  | store addr v _ ih => exact ih (hs.memWrite addr v)

/-! ## The sequencer, the fault record and the history -/

/-- `t` stands where `s` does in its run: the same `run`, fault record and history of port accesses (spec/10_state.md R35
to R37). -/
def KeepsControl (s t : State) : Prop := t.run = s.run ∧ t.fault = s.fault ∧ t.io = s.io

theorem keepsControl_runAlu (op : AluOp) (v : Byte) (k : Nat) (s : State) : KeepsControl s (runAlu op v k s) := by
  cases op <;> exact ⟨rfl, rfl, rfl⟩

theorem keepsControl_jumpIf (k : Cond) (a16 : Word) (s : State) : KeepsControl s (jumpIf k a16 s) := by
  unfold jumpIf
  split <;> exact ⟨rfl, rfl, rfl⟩

theorem keepsControl_callIf (k : Cond) (a16 : Word) (s : State) : KeepsControl s (callIf k a16 s) := by
  unfold callIf
  split <;> simp [KeepsControl, callTo]

theorem keepsControl_returnIf (k : Cond) (s : State) : KeepsControl s (returnIf k s) := by
  unfold returnIf
  split <;> exact ⟨rfl, rfl, rfl⟩

/-- Only HLT, the undocumented terms, IN and OUT write the sequencer, the fault record or the history. -/
theorem Executes.control {s t : State} {i : Instr} (h : Executes s i t) :
    KeepsControl s t ∨ (i = .hlt ∧ t = halt s) ∨
      (i ∈ Instr.undocumented ∧ t = takeUnimplemented i.opcode s) ∨
      (∃ p8, i = .inPort p8 ∧ t = input p8 s) ∨ ∃ p8, i = .outPort p8 ∧ t = output p8 s := by
  cases h with
  | hlt => exact .inr (.inl ⟨rfl, rfl⟩)
  | undocumented i h => exact .inr (.inr (.inl ⟨h, rfl⟩))
  | inPort p8 => exact .inr (.inr (.inr (.inl ⟨p8, rfl, rfl⟩)))
  | outPort p8 => exact .inr (.inr (.inr (.inr ⟨p8, rfl, rfl⟩)))
  | mov dst src => exact .inl (by simp [KeepsControl, move])
  | alu op o => exact .inl (keepsControl_runAlu op _ 0 s)
  | aluImm op d8 => exact .inl (keepsControl_runAlu op d8 1 s)
  | inr o => exact .inl (by simp [KeepsControl, increment])
  | dcr o => exact .inl (by simp [KeepsControl, decrement])
  | mvi o d8 => exact .inl (by simp [KeepsControl, moveImmediate])
  | lxi k d16 => exact .inl (by simp [KeepsControl, loadPairImmediate])
  | inx k => exact .inl (by simp [KeepsControl, incrementPair])
  | dcx k => exact .inl (by simp [KeepsControl, decrementPair])
  | pop k => exact .inl (by simp [KeepsControl, Machine.pop])
  | jcc k a16 => exact .inl (keepsControl_jumpIf k a16 s)
  | ccc k a16 => exact .inl (keepsControl_callIf k a16 s)
  | rcc k => exact .inl (keepsControl_returnIf k s)
  | _ =>
    exact .inl (by simp [KeepsControl, addPairToHL, storeAccIndirect, loadAccIndirect, Machine.push, restart,
      storeHLDirect, loadHLDirect, storeAccDirect, loadAccDirect, jumpTo, callTo, noOperation, rotateLeft, rotateRight,
      rotateLeftThroughCarry, rotateRightThroughCarry, decimalAdjust, complementAcc, setCarry, complementCarry,
      returnFrom, exchangeStackTop, jumpToHL, exchangeHLDE, disableInterrupts, stackFromHL, enableInterrupts])

/-- An instruction appends at most one access to the history (spec/10_state.md R35). -/
theorem Executes.io {s t : State} {i : Instr} (h : Executes s i t) : t.io = s.io ∨ ∃ ev, t.io = s.io ++ [ev] := by
  rcases h.control with ⟨-, -, hio⟩ | ⟨-, rfl⟩ | ⟨-, rfl⟩ | ⟨p8, -, rfl⟩ | ⟨p8, -, rfl⟩
  · exact .inl hio
  · exact .inl rfl
  · exact .inl rfl
  · exact .inr ⟨.input p8 (ioRead s p8), rfl⟩
  · exact .inr ⟨.output p8 s.a, rfl⟩

/-- An instruction that a running machine executes keeps the fault record present exactly in `halted_fault`
(spec/10_state.md R37). -/
theorem Executes.fault_iff {s t : State} {i : Instr} (h : Executes s i t) (hrun : s.run = .running)
    (hs : s.fault.isSome = true ↔ s.run = .haltedFault) : t.fault.isSome = true ↔ t.run = .haltedFault := by
  have hnone : s.fault.isSome = false := by simpa [hrun] using hs
  rcases h.control with ⟨hr, hf, -⟩ | ⟨-, rfl⟩ | ⟨-, rfl⟩ | ⟨p8, -, rfl⟩ | ⟨p8, -, rfl⟩
  · rw [hr, hf]
    exact hs
  · simp [halt, hnone]
  · simp [takeUnimplemented]
  · simp [input, hs]
  · exact hs

/-! ## Instructions and steps -/

/-- An instruction that a running machine executes keeps the invariant. -/
theorem Executes.inv {s t : State} {i : Instr} (h : Executes s i t) (hs : s.Inv) (hrun : s.run = .running) :
    t.Inv := by
  obtain ⟨hmem, hfault⟩ := s.inv_iff.mp hs
  exact t.inv_iff.mpr ⟨h.stores.memInv hmem, h.fault_iff hrun hfault⟩

theorem StepsTo.inv {s t : State} (h : StepsTo s t) (hs : s.Inv) : t.Inv := by
  obtain ⟨hwf, hinside, hfault⟩ := hs
  cases h with
  | halted => exact ⟨hwf, hinside, hfault⟩
  | bound hrun => exact ⟨hwf, hinside, by simpa [hrun] using hfault⟩
  | gate => exact ⟨hwf, hinside, by simp⟩
  | executes hrun _ _ h => exact h.inv ⟨hwf, hinside, hfault⟩ hrun

/-- Settles O15: each way of a step keeps the invariant. -/
theorem stepKeepsInvariant : Obligations.StepKeepsInvariant :=
  fun _ _ hs h => (step_eq_next_iff.mp h).inv hs

/-- Settles O18: the frames and the stores of the shared operations, pattern by pattern. -/
theorem frameOfEveryInstruction : Obligations.FrameOfEveryInstruction := by
  intro i s t h
  have h := exec_eq_next_iff.mp h
  exact ⟨h.frame, h.stores.onlyAt⟩

/-- Settles O16: no operation writes the parameters, and only IN and OUT append to the history. -/
theorem parametersNeverChange : Obligations.ParametersNeverChange := by
  intro s t h
  cases step_eq_next_iff.mp h with
  | executes _ _ _ h => exact ⟨h.frame.cfg_eq, h.io⟩
  | _ => exact ⟨rfl, .inl rfl⟩

end Sys2Proof.Machine
end

section
/-! No operation reads INTE: each commutes with changing INTE beforehand, but for EI and DI, which overwrite it
(spec/10_state.md R32). -/

namespace Sys2Proof.Machine

/-- `s` with INTE changed. -/
def State.withInte (s : State) (v : Bool) : State := { s with inte := v }

@[simp] theorem withInte_withInte (s : State) (v w : Bool) : (s.withInte v).withInte w = s.withInte w := rfl

@[simp] theorem withInte_inte_self (s : State) : s.withInte s.inte = s := rfl

section
variable (s : State) (v : Bool)

/-! ## What is read -/

@[simp] theorem withInte_reg (r : Reg) : (s.withInte v).reg r = s.reg r := by cases r <;> rfl
@[simp] theorem withInte_flags : (s.withInte v).flags = s.flags := rfl
@[simp] theorem withInte_pair (k : RegPair) : (s.withInte v).pair k = s.pair k := by cases k <;> rfl
@[simp] theorem withInte_readOperand (o : Operand) : readOperand o (s.withInte v) = readOperand o s := by
  cases o with
  | reg r => exact withInte_reg s v r
  | m => rfl

/-! ## The primitives that write -/

@[simp] theorem withInte_setReg (r : Reg) (x : Byte) :
    (s.withInte v).setReg r x = (s.setReg r x).withInte v := by cases r <;> rfl
@[simp] theorem withInte_setPair (k : RegPair) (w : Word) :
    (s.withInte v).setPair k w = (s.setPair k w).withInte v := by cases k <;> rfl
@[simp] theorem withInte_writeOperand (o : Operand) (x : Byte) :
    writeOperand o x (s.withInte v) = (writeOperand o x s).withInte v := by
  cases o with
  | reg r => exact withInte_setReg s v r x
  | m => rfl
@[simp] theorem withInte_setFlagsOnly (r : AluResult) :
    setFlagsOnly r (s.withInte v) = (setFlagsOnly r s).withInte v := rfl
@[simp] theorem withInte_advance (k : Nat) : advance k (s.withInte v) = (advance k s).withInte v := rfl

/-! ## The shared operations that depend on an operand, a pair or a condition; the others commute by rfl -/

@[simp] theorem withInte_move (dst src : Operand) :
    move dst src (s.withInte v) = (move dst src s).withInte v := by simp [move]
@[simp] theorem withInte_moveImmediate (dst : Operand) (d8 : Byte) :
    moveImmediate dst d8 (s.withInte v) = (moveImmediate dst d8 s).withInte v := by simp [moveImmediate]
@[simp] theorem withInte_runAlu (op : AluOp) (x : Byte) (k : Nat) :
    runAlu op x k (s.withInte v) = (runAlu op x k s).withInte v := by cases op <;> rfl
@[simp] theorem withInte_increment (o : Operand) :
    increment o (s.withInte v) = (increment o s).withInte v := by simp [increment]
@[simp] theorem withInte_decrement (o : Operand) :
    decrement o (s.withInte v) = (decrement o s).withInte v := by simp [decrement]
@[simp] theorem withInte_loadPairImmediate (k : RegPair) (d16 : Word) :
    loadPairImmediate k d16 (s.withInte v) = (loadPairImmediate k d16 s).withInte v := by simp [loadPairImmediate]
@[simp] theorem withInte_incrementPair (k : RegPair) :
    incrementPair k (s.withInte v) = (incrementPair k s).withInte v := by simp [incrementPair]
@[simp] theorem withInte_decrementPair (k : RegPair) :
    decrementPair k (s.withInte v) = (decrementPair k s).withInte v := by simp [decrementPair]
@[simp] theorem withInte_addPairToHL (k : RegPair) :
    addPairToHL k (s.withInte v) = (addPairToHL k s).withInte v := by cases k <;> rfl
@[simp] theorem withInte_storeAccIndirect (k : IndexPair) :
    storeAccIndirect k (s.withInte v) = (storeAccIndirect k s).withInte v := by cases k <;> rfl
@[simp] theorem withInte_loadAccIndirect (k : IndexPair) :
    loadAccIndirect k (s.withInte v) = (loadAccIndirect k s).withInte v := by cases k <;> rfl
@[simp] theorem withInte_push (k : StackPair) : push k (s.withInte v) = (push k s).withInte v := by cases k <;> rfl
@[simp] theorem withInte_pop (k : StackPair) : pop k (s.withInte v) = (pop k s).withInte v := by cases k <;> rfl
@[simp] theorem withInte_jumpIf (k : Cond) (a16 : Word) :
    jumpIf k a16 (s.withInte v) = (jumpIf k a16 s).withInte v := by
  unfold jumpIf
  rw [withInte_flags]
  split <;> rfl
@[simp] theorem withInte_callIf (k : Cond) (a16 : Word) :
    callIf k a16 (s.withInte v) = (callIf k a16 s).withInte v := by
  unfold callIf
  rw [withInte_flags]
  split <;> rfl
@[simp] theorem withInte_returnIf (k : Cond) : returnIf k (s.withInte v) = (returnIf k s).withInte v := by
  unfold returnIf
  rw [withInte_flags]
  split <;> rfl

end

/-! ## Instructions and steps -/

/-- Executing an instruction with another INTE ends in the same state but for INTE. -/
theorem Executes.withInte {s t : State} {i : Instr} (h : Executes s i t) (v : Bool) :
    ∃ u, Executes (s.withInte v) i u ∧ u.withInte t.inte = t := by
  cases h with
  | mov dst src h => exact ⟨_, .mov dst src h, by simp⟩
  | alu op o => exact ⟨_, .alu op o, by simp⟩
  | aluImm op d8 => exact ⟨_, .aluImm op d8, by simp⟩
  | inr o => exact ⟨_, .inr o, by simp⟩
  | dcr o => exact ⟨_, .dcr o, by simp⟩
  | mvi o d8 => exact ⟨_, .mvi o d8, by simp⟩
  | lxi k d16 => exact ⟨_, .lxi k d16, by simp⟩
  | inx k => exact ⟨_, .inx k, by simp⟩
  | dcx k => exact ⟨_, .dcx k, by simp⟩
  | dad k => exact ⟨_, .dad k, by simp⟩
  | stax k => exact ⟨_, .stax k, by simp⟩
  | ldax k => exact ⟨_, .ldax k, by simp⟩
  | push k => exact ⟨_, .push k, by simp⟩
  | pop k => exact ⟨_, .pop k, by simp⟩
  | jcc k a16 => exact ⟨_, .jcc k a16, by simp⟩
  | ccc k a16 => exact ⟨_, .ccc k a16, by simp⟩
  | rcc k => exact ⟨_, .rcc k, by simp⟩
  | rst n => exact ⟨_, .rst n, rfl⟩
  | shld a16 => exact ⟨_, .shld a16, rfl⟩
  | lhld a16 => exact ⟨_, .lhld a16, rfl⟩
  | sta a16 => exact ⟨_, .sta a16, rfl⟩
  | lda a16 => exact ⟨_, .lda a16, rfl⟩
  | jmp a16 => exact ⟨_, .jmp a16, rfl⟩
  | call a16 => exact ⟨_, .call a16, rfl⟩
  | outPort p8 => exact ⟨_, .outPort p8, rfl⟩
  | inPort p8 => exact ⟨_, .inPort p8, rfl⟩
  | nop => exact ⟨_, .nop, rfl⟩
  | rlc => exact ⟨_, .rlc, rfl⟩
  | rrc => exact ⟨_, .rrc, rfl⟩
  | ral => exact ⟨_, .ral, rfl⟩
  | rar => exact ⟨_, .rar, rfl⟩
  | daa => exact ⟨_, .daa, rfl⟩
  | cma => exact ⟨_, .cma, rfl⟩
  | stc => exact ⟨_, .stc, rfl⟩
  | cmc => exact ⟨_, .cmc, rfl⟩
  | hlt => exact ⟨_, .hlt, rfl⟩
  | ret => exact ⟨_, .ret, rfl⟩
  | xthl => exact ⟨_, .xthl, rfl⟩
  | pchl => exact ⟨_, .pchl, rfl⟩
  | xchg => exact ⟨_, .xchg, rfl⟩
  | di => exact ⟨_, .di, rfl⟩
  | sphl => exact ⟨_, .sphl, rfl⟩
  | ei => exact ⟨_, .ei, rfl⟩
  | undocumented i h => exact ⟨_, .undocumented i h, rfl⟩

/-- A step with another INTE goes the same way and ends in the same state but for INTE. -/
theorem StepsTo.withInte {s t : State} (h : StepsTo s t) (v : Bool) :
    ∃ u, StepsTo (s.withInte v) u ∧ u.withInte t.inte = t := by
  cases h with
  | halted hrun => exact ⟨_, .halted hrun, rfl⟩
  | bound hrun hlimit => exact ⟨_, .bound hrun hlimit, rfl⟩
  | gate hrun hlimit himpl => exact ⟨_, .gate hrun hlimit himpl, rfl⟩
  | executes hrun hlimit himpl h =>
    obtain ⟨u, hu, heq⟩ := h.withInte v
    exact ⟨u, .executes hrun hlimit himpl hu, heq⟩

/-- Settles O19: every way of a step commutes with changing INTE, but for EI and DI, which overwrite it. -/
theorem inteReadByNothing : Obligations.InteReadByNothing := by
  intro s t v h
  obtain ⟨u, hu, heq⟩ := (step_eq_next_iff.mp h).withInte v
  exact ⟨u, hu.step_eq, heq⟩

end Sys2Proof.Machine
end

section
/-! The state after reset, the register pairs and the flag byte. -/

namespace Sys2Proof.Machine

theorem flagByte_toNat (f : Flags) : (flagByte f).toNat =
    2 + 128 * f.s.toNat + 64 * f.z.toNat + 16 * f.ac.toNat + 4 * f.p.toNat + f.cy.toNat := by
  rcases f with ⟨z, s, p, cy, ac⟩
  cases z <;> cases s <;> cases p <;> cases cy <;> cases ac <;> rfl

/-- Settles O25: the 32 flag values one by one; a flag read back is by definition its bit of the byte. -/
theorem flagByteLayout : Obligations.FlagByteLayout :=
  ⟨flagByte_toNat, fun _ => ⟨rfl, rfl, rfl, rfl, rfl⟩⟩

theorem implemented_default (op : Byte) : implemented Config.default op = documented op := by
  simp [implemented, Config.default]

theorem reg_construct (cfg : Config) (r : Reg) : (State.construct cfg).reg r = 0x00 := by cases r <;> rfl

/-- The flag byte with all five flags set, as reset leaves them (spec/10_state.md R40). -/
theorem flagByte_ones : flagByte ⟨true, true, true, true, true⟩ = 0xD7 := by decide

/-- Settles O13: the values of construction, read off field by field. -/
theorem resetValues : Obligations.ResetValues := by
  refine ⟨fun cfg => ⟨reg_construct cfg, ?_⟩, rfl, rfl, rfl, implemented_default, fun _ => rfl⟩
  exact ⟨rfl, rfl, rfl, rfl, rfl, rfl, rfl, flagByte_ones, rfl, fun _ => rfl, rfl, rfl, rfl⟩

theorem inv_construct (cfg : Config) : (State.construct cfg).Inv := by
  refine ⟨⟨.nil, ?_⟩, ?_, ?_⟩ <;> simp [State.construct]

/-- Settles O14: construction has no cell and no fault record, and is running. -/
theorem resetMeetsInvariant : Obligations.ResetMeetsInvariant :=
  ⟨inv_construct Config.default, inv_construct⟩

/-- A pair reads the word written to it (spec/10_state.md R22). -/
@[simp] theorem pair_setPair (s : State) (k : RegPair) (w : Word) : (s.setPair k w).pair k = w := by
  cases k with
  | sp => rfl
  | _ => exact joinBytes_high_low w

/-- Settles O22: a pair is its two registers joined, and joining undoes the split into bytes. -/
theorem pairsAreViews : Obligations.PairsAreViews := by
  refine ⟨fun s => ?_, fun s w => ?_, fun s k w => ⟨pair_setPair s k w, frame_setPair k w s⟩, fun w => ?_⟩
  · exact ⟨joinBytes_toNat s.b s.c, joinBytes_toNat s.d s.e, joinBytes_toNat s.h s.l⟩
  · exact ⟨rfl, rfl, rfl, rfl, rfl, rfl⟩
  · exact ⟨joinBytes_high_low w, highByte_toNat w, lowByte_toNat w⟩

end Sys2Proof.Machine
end

section
/-! Bytes and words of memory: what is read after a write, a word of two bytes in a row, and the stack. -/

namespace Sys2Proof.Machine

/-- Settles O20: the rule of a read after a write, and the frame of a write. -/
theorem readAfterWrite : Obligations.ReadAfterWrite :=
  fun s a b v => ⟨memRead_memWrite s a b v, frame_memWrite a v s⟩

/-- A stored word is read back at its address, its two bytes joined (spec/20_memory.md R65). -/
theorem StoresWord.word {addr w : Word} {s t : State} (h : StoresWord addr w s t) : memReadWord t addr = w := by
  unfold memReadWord
  rw [h.high, h.low, joinBytes_high_low]

/-- The last index of the image is followed by the first (spec/20_memory.md R63). -/
theorem index_succ_of_last {s : State} {addr : Word} (h : s.index addr = memSize s.cfg - 1) :
    s.index (addr + 1) = 0 := by
  have hpos := memSize_pos s.cfg
  calc s.index (addr + 1)
      = (addr.toNat + 1) % memSize s.cfg := index_add s addr 1
    _ = (s.index addr + 1) % memSize s.cfg := (Nat.mod_add_mod ..).symm
    _ = memSize s.cfg % memSize s.cfg := by rw [h, Nat.sub_add_cancel hpos]
    _ = 0 := Nat.mod_self _

/-- Settles O21: a word write stores its two bytes in a row, and the index after the last is the first. -/
theorem wordsAreLittleEndian : Obligations.WordsAreLittleEndian := by
  intro s addr w
  have hstore := storesWord_memWriteWord s addr w
  exact ⟨hstore.low, hstore.high, hstore.word, joinBytes_toNat _ _, index_succ_of_last⟩

/-- The word popped after a push is the word pushed (spec/20_memory.md R76). -/
@[simp] theorem topOfStack_push16 (s : State) (w : Word) : topOfStack (push16 w s) = w :=
  (storesWord_push16 s w).word

/-- SP after a push and a pop is what it was (spec/20_memory.md R76). -/
theorem sp_dropWord_push16 (s : State) (w : Word) : (dropWord (push16 w s)).sp = s.sp :=
  BitVec.sub_add_cancel s.sp 2

/-- Settles O24: a push stores a word at SP - 2, whose high byte is at SP - 1, and a pop reads that word back. -/
theorem pushThenPop : Obligations.PushThenPop := by
  intro s w
  have hstore := storesWord_push16 s w
  have hhigh : memRead (push16 w s) (s.sp - 1) = highByte w := by
    rw [show s.sp - 1 = s.sp - 2 + 1 by bv_omega]
    exact hstore.high
  exact ⟨hhigh, hstore.low, rfl, hstore, frame_push16 w s, rfl, rfl, frame_dropWord s, topOfStack_push16 s w,
    sp_dropWord_push16 s w⟩

end Sys2Proof.Machine
end

section
/-! The decoder and the encoder agree, in both directions (spec/30_encoding.md R90 to R107): every slot of the opcode
map holds the instruction whose table entry is that slot, and every instruction is found in its slot. -/

namespace Sys2Proof

open Machine (lowByte_joinBytes highByte_joinBytes joinBytes_high_low instr_byPattern forall_undocumented)

/-! ## From bytes to instruction and back -/

/-- The opcode byte with the fields `QQ`, `DDD` and `SSS` (spec/30_encoding.md R93). -/
def opcodeOfFields (qq : Fin 4) (ddd sss : Fin 8) : Byte := BitVec.ofNat 8 (64 * qq + 8 * ddd + sss)

/-- A byte is its three fields. -/
theorem opcodeOfFields_fields (op : Byte) : opcodeOfFields (fieldQQ op) (fieldDDD op) (fieldSSS op) = op := by
  apply BitVec.eq_of_toNat_eq
  have := op.isLt
  simp only [opcodeOfFields, fieldQQ, fieldDDD, fieldSSS, BitVec.toNat_ofNat]
  omega

/-- `i` is what the decoder has to answer for the fetched bytes: its encoding is the opcode byte and the operand bytes
that R92 gives that byte, and it is an instruction exactly when the byte is documented. -/
structure Reads (op b1 b2 : Byte) (i : Instr) : Prop where
  encode_eq : encode i = op :: [b1, b2].take (operandCount op)
  wellFormed_eq : i.wellFormed = documented op

section
variable {op b1 b2 : Byte} {i : Instr} (hdoc : i.wellFormed = documented op)
include hdoc

theorem Reads.oneByte (hcount : operandCount op = 0) (hencode : encode i = [op]) : Reads op b1 b2 i :=
  ⟨by rw [hencode, hcount]; rfl, hdoc⟩

theorem Reads.twoBytes (hcount : operandCount op = 1) (hencode : encode i = [op, b1]) : Reads op b1 b2 i :=
  ⟨by rw [hencode, hcount]; rfl, hdoc⟩

theorem Reads.threeBytes (hcount : operandCount op = 2)
    (hencode : encode i = [op, lowByte (joinBytes b2 b1), highByte (joinBytes b2 b1)]) : Reads op b1 b2 i :=
  ⟨by rw [hencode, hcount, lowByte_joinBytes, highByte_joinBytes]; rfl, hdoc⟩

end

section
variable (b1 b2 : Byte) (ddd sss : Fin 8)

/-- Quadrant `00`, column by column (spec/30_encoding.md R100). -/
theorem reads_quadrant0 :
    Reads (opcodeOfFields 0 ddd sss) b1 b2 (decodeQuadrant0 ddd sss b1 (joinBytes b2 b1)) := by
  match sss with
  | 0 | 3 | 4 | 5 | 7 =>
    match ddd with
    | 0 | 1 | 2 | 3 | 4 | 5 | 6 | 7 => exact .oneByte rfl rfl rfl
  | 1 =>
    match ddd with
    | 0 | 2 | 4 | 6 => exact .threeBytes rfl rfl rfl
    | 1 | 3 | 5 | 7 => exact .oneByte rfl rfl rfl
  | 2 =>
    match ddd with
    | 0 | 1 | 2 | 3 => exact .oneByte rfl rfl rfl
    | 4 | 5 | 6 | 7 => exact .threeBytes rfl rfl rfl
  | 6 =>
    match ddd with
    | 0 | 1 | 2 | 3 | 4 | 5 | 6 | 7 => exact .twoBytes rfl rfl rfl

/-- Quadrant `01`: MOV and HLT (spec/30_encoding.md R101). -/
theorem reads_quadrant1 : Reads (opcodeOfFields 1 ddd sss) b1 b2 (.ofMov (.ofCode ddd) (.ofCode sss)) := by
  match ddd with
  | 0 | 1 | 2 | 3 | 4 | 5 | 6 | 7 =>
    match sss with
    | 0 | 1 | 2 | 3 | 4 | 5 | 6 | 7 => exact .oneByte rfl rfl rfl

/-- Quadrant `10`: the ALU operations (spec/30_encoding.md R102). -/
theorem reads_quadrant2 : Reads (opcodeOfFields 2 ddd sss) b1 b2 (.ofAlu (.ofCode ddd) (.ofCode sss)) := by
  match ddd with
  | 0 | 1 | 2 | 3 | 4 | 5 | 6 | 7 =>
    match sss with
    | 0 | 1 | 2 | 3 | 4 | 5 | 6 | 7 => exact .oneByte rfl rfl rfl

/-- Quadrant `11`, column by column (spec/30_encoding.md R103). -/
theorem reads_quadrant3 :
    Reads (opcodeOfFields 3 ddd sss) b1 b2 (decodeQuadrant3 ddd sss b1 (joinBytes b2 b1)) := by
  match sss with
  | 0 | 1 | 7 =>
    match ddd with
    | 0 | 1 | 2 | 3 | 4 | 5 | 6 | 7 => exact .oneByte rfl rfl rfl
  | 2 | 4 =>
    match ddd with
    | 0 | 1 | 2 | 3 | 4 | 5 | 6 | 7 => exact .threeBytes rfl rfl rfl
  | 3 =>
    match ddd with
    | 0 => exact .threeBytes rfl rfl rfl
    | 2 | 3 => exact .twoBytes rfl rfl rfl
    | 1 | 4 | 5 | 6 | 7 => exact .oneByte rfl rfl rfl
  | 5 =>
    match ddd with
    | 1 => exact .threeBytes rfl rfl rfl
    | 0 | 2 | 3 | 4 | 5 | 6 | 7 => exact .oneByte rfl rfl rfl
  | 6 =>
    match ddd with
    | 0 | 1 | 2 | 3 | 4 | 5 | 6 | 7 => exact .twoBytes rfl rfl rfl

end

/-- The decoder's answer is right for every opcode byte: one case per quadrant (spec/30_encoding.md R104). -/
theorem reads_decodeOp (op b1 b2 : Byte) : Reads op b1 b2 (decodeOp op b1 b2) := by
  have hfields := opcodeOfFields_fields op
  unfold decodeOp
  generalize fieldQQ op = qq, fieldDDD op = ddd, fieldSSS op = sss at hfields ⊢
  subst hfields
  match qq with
  | 0 => exact reads_quadrant0 b1 b2 ddd sss
  | 1 => exact reads_quadrant1 b1 b2 ddd sss
  | 2 => exact reads_quadrant2 b1 b2 ddd sss
  | 3 => exact reads_quadrant3 b1 b2 ddd sss

/-- An opcode byte has at most two operand bytes (spec/30_encoding.md R91). -/
theorem operandCount_le_two (op : Byte) : operandCount op ≤ 2 := by
  unfold operandCount
  split_ifs <;> decide

theorem encode_decodeOp (op b1 b2 : Byte) : encode (decodeOp op b1 b2) = op :: [b1, b2].take (operandCount op) :=
  (reads_decodeOp op b1 b2).encode_eq

theorem length_encode_decodeOp (op b1 b2 : Byte) : (encode (decodeOp op b1 b2)).length = operandCount op + 1 := by
  have hle := operandCount_le_two op
  simp [encode_decodeOp, hle]

/-- Settles O3: the encoding of the decoded instruction is the opcode byte and the operand bytes it counts; the rest of
the three bytes follows. -/
theorem encodeOfDecode : Obligations.EncodeOfDecode := by
  intro op b1 b2
  refine ⟨[b1, b2].drop (operandCount op), ?_⟩
  rw [encode_decodeOp, List.cons_append, List.take_append_drop]

/-! ## From instruction to bytes and back -/

/-- The decoder finds `i` at its table entry, whatever bytes follow its own. -/
def Found (i : Instr) : Prop := ∀ rest : List Byte,
  decodeOp i.opcode ((i.operandBytes ++ rest).getD 0 0) ((i.operandBytes ++ rest).getD 1 0) = i

/-- An instruction with a byte operand is found if its table entry is read as that instruction with the next byte. -/
theorem Found.ofByte (f : Byte → Instr) (hencode : ∀ v, encode (f v) = [(f 0).opcode, v])
    (hdecode : ∀ b1 b2, decodeOp (f 0).opcode b1 b2 = f b1) (v : Byte) : Found (f v) := by
  obtain ⟨hop, hbytes⟩ := List.cons.inj (hencode v)
  intro rest
  rw [hop, hbytes]
  exact hdecode v _

/-- An instruction with a word operand is found if its table entry is read as that instruction with the next two bytes,
the low one first (spec/30_encoding.md R98). -/
theorem Found.ofWord (f : Word → Instr) (hencode : ∀ w, encode (f w) = [(f 0).opcode, lowByte w, highByte w])
    (hdecode : ∀ b1 b2, decodeOp (f 0).opcode b1 b2 = f (joinBytes b2 b1)) (w : Word) : Found (f w) := by
  obtain ⟨hop, hbytes⟩ := List.cons.inj (hencode w)
  intro rest
  rw [hop, hbytes]
  calc decodeOp (f 0).opcode (lowByte w) (highByte w) = f (joinBytes (highByte w) (lowByte w)) := hdecode _ _
    _ = f w := by rw [joinBytes_high_low]

/-- Every instruction is found: one case per pattern of spec/30_encoding.md R100 to R103. -/
theorem instr_found (i : Instr) : Found i := by
  induction i using instr_byPattern with
  | ofMov dst src =>
    rcases dst with r | _ <;> rcases src with q | _
    · cases r <;> cases q <;> exact fun _ => rfl
    · cases r <;> exact fun _ => rfl
    · cases q <;> exact fun _ => rfl
    · exact fun _ => rfl
  | ofAlu op o =>
    rcases o with r | _
    · cases op <;> cases r <;> exact fun _ => rfl
    · cases op <;> exact fun _ => rfl
  | ofInr o | ofDcr o =>
    rcases o with r | _
    · cases r <;> exact fun _ => rfl
    · exact fun _ => rfl
  | ofInx k | ofDcx k | ofDad k | ofStax k | ofLdax k | ofPush k | ofPop k | ofRcc k => cases k <;> exact fun _ => rfl
  | ofRst n =>
    match n with
    | 0 | 1 | 2 | 3 | 4 | 5 | 6 | 7 => exact fun _ => rfl
  | ofMvi o d8 =>
    rcases o with r | _
    · cases r <;> exact .ofByte (.ofMvi (.reg _)) (fun _ => rfl) (fun _ _ => rfl) d8
    · exact .ofByte (.ofMvi .m) (fun _ => rfl) (fun _ _ => rfl) d8
  | ofAluImm op d8 => cases op <;> exact .ofByte (.ofAluImm _) (fun _ => rfl) (fun _ _ => rfl) d8
  | outPort p8 | inPort p8 => exact .ofByte _ (fun _ => rfl) (fun _ _ => rfl) p8
  | ofLxi k d16 => cases k <;> exact .ofWord (.ofLxi _) (fun _ => rfl) (fun _ _ => rfl) d16
  | ofJcc k a16 => cases k <;> exact .ofWord (.ofJcc _) (fun _ => rfl) (fun _ _ => rfl) a16
  | ofCcc k a16 => cases k <;> exact .ofWord (.ofCcc _) (fun _ => rfl) (fun _ _ => rfl) a16
  | shld a16 | lhld a16 | sta a16 | lda a16 | jmp a16 | call a16 =>
    exact .ofWord _ (fun _ => rfl) (fun _ _ => rfl) a16
  | undocumented i hi =>
    revert i
    apply forall_undocumented <;> exact fun _ => rfl
  | _ => exact fun _ => rfl

theorem length_operandBytes (i : Instr) : i.operandBytes.length = operandCount i.opcode := by
  have h := length_encode_decodeOp i.opcode ((i.operandBytes ++ []).getD 0 0) ((i.operandBytes ++ []).getD 1 0)
  rw [instr_found i []] at h
  exact Nat.succ.inj h

theorem decode_encode (i : Instr) (rest : List Byte) : decode (encode i ++ rest) = .ok (i, rest) := by
  have hlong : ¬(i.operandBytes ++ rest).length < operandCount i.opcode := by
    simp [length_operandBytes]
  have hrest : (i.operandBytes ++ rest).drop (operandCount i.opcode) = rest := by
    rw [← length_operandBytes, List.drop_left]
  rw [encode, List.cons_append, decode, if_neg hlong, hrest, instr_found i rest]

/-- Settles O2: the decoder finds the instruction at its table entry, and its operand bytes are as many as the decoder
takes. -/
theorem decodeOfEncode : Obligations.DecodeOfEncode := decode_encode

/-- Settles O1: each word is the encoding of its instruction; the last has no second operand byte. -/
theorem specWordsDecode : Obligations.SpecWordsDecode :=
  ⟨decode_encode .movBC [], decode_encode (.mviM 0x5A) [0x76], decode_encode (.lxiB 0x1234) [0x00],
    decode_encode (.lxiSp 0x2000) [], decode_encode .staxB [], decode_encode .addD [], decode_encode (.sbi 0x01) [],
    decode_encode .dadSp [], decode_encode .anaM [], decode_encode .rar [], decode_encode (.jnz 0x1000) [],
    decode_encode (.call 0x0200) [], decode_encode .rst5 [], decode_encode .pushPsw [], decode_encode (.inPort 0x10) [],
    decode_encode .hlt [], decode_encode .undocumentedED [], rfl⟩

/-! ## Lengths -/

/-- A count over `m * n` numbers, `m` at a time. -/
theorem countP_range_mul (p : Nat → Bool) (m n : Nat) : (List.range (m * n)).countP p =
    ((List.range n).map fun q => (List.range m).countP fun k => p (m * q + k)).sum := by
  induction n with
  | zero => rfl
  | succ n ih =>
    rw [Nat.mul_succ, List.range_add, List.countP_append, List.countP_map, ih, List.range_succ, List.map_append,
      List.sum_append]
    simp [Function.comp_def]

/-- How many documented opcode bytes of the quadrant `qq` belong to an instruction of `n` bytes. -/
def documentedInQuadrant (n qq : Nat) : Nat := (List.range 64).countP fun k =>
  documented (BitVec.ofNat 8 (64 * qq + k)) && operandCount (BitVec.ofNat 8 (64 * qq + k)) + 1 == n

theorem countP_documented (n : Nat) :
    (List.range 256).countP (fun k => documented (BitVec.ofNat 8 k) && operandCount (BitVec.ofNat 8 k) + 1 == n) =
      ((List.range 4).map (documentedInQuadrant n)).sum :=
  countP_range_mul _ 64 4

theorem documentedInQuadrant_oneByte : (List.range 4).map (documentedInQuadrant 1) = [41, 64, 64, 31] := by decide

theorem documentedInQuadrant_twoBytes : (List.range 4).map (documentedInQuadrant 2) = [8, 0, 0, 10] := by decide

theorem documentedInQuadrant_threeBytes : (List.range 4).map (documentedInQuadrant 3) = [8, 0, 0, 18] := by decide

/-- Settles O4: the length is one more than the operand bytes counted by the masks of R92; the opcode bytes of each
length are counted quadrant by quadrant. -/
theorem lengthByOpcode : Obligations.LengthByOpcode := by
  refine ⟨fun op b1 b2 _ => ?_, fun b1 b2 => ?_⟩
  · rw [length_encode_decodeOp, operandCount]
    split_ifs <;> rfl
  · simp only [length_encode_decodeOp, countP_documented, documentedInQuadrant_oneByte, documentedInQuadrant_twoBytes,
      documentedInQuadrant_threeBytes]
    decide

end Sys2Proof
end

section
/-! Which instruction a step runs: the one that the three bytes at PC decode to, if the gate lets the opcode byte pass
(spec/30_encoding.md R110, R112); the undocumented bytes it never lets pass (R105). -/

namespace Sys2Proof.Machine

/-! ## The gate -/

theorem documented_eq_false_iff (op : Byte) : documented op = false ↔ op ∈ undocumentedOpcodes := by
  simp [documented]

/-- No machine implements an undocumented byte (spec/30_encoding.md R105). -/
theorem implemented_undocumented (cfg : Config) {op : Byte} (h : op ∈ undocumentedOpcodes) :
    implemented cfg op = false := by
  simp [implemented, (documented_eq_false_iff op).mpr h]

theorem atPcLimit_eq_false_iff (s : State) :
    atPcLimit s = false ↔ ∀ limit, s.cfg.pcLimit = some limit → s.pc.toNat < limit.val := by
  unfold atPcLimit
  cases s.cfg.pcLimit <;> simp

/-- Settles O5: an undocumented byte is one whose slot of the opcode map holds no instruction, and the gate of the step
stops it. -/
theorem undocumentedBytesAlwaysFault : Obligations.UndocumentedBytesAlwaysFault := by
  refine ⟨fun op b1 b2 => ?_, fun cfg op h => implemented_undocumented cfg h, fun s hrun hlimit h => ?_⟩
  · rw [(reads_decodeOp op b1 b2).wellFormed_eq]
    exact documented_eq_false_iff op
  · have hgate := StepsTo.gate hrun ((atPcLimit_eq_false_iff s).mpr hlimit) (implemented_undocumented s.cfg h)
    exact ⟨_, hgate.step_eq, rfl, rfl⟩

/-- An undocumented term is encoded as its own byte alone (log entry 4). -/
theorem encode_undocumented : ∀ i ∈ Instr.undocumented, encode i = [i.opcode] ∧ i.opcode ∈ undocumentedOpcodes := by
  decide

/-- Settles O60: an undocumented term takes the fault with its own byte, which writes the record and `run` only. -/
theorem undocumentedTakeTheFault : Obligations.UndocumentedTakeTheFault := by
  intro i s hi
  obtain ⟨hencode, hmem⟩ := encode_undocumented i hi
  have hframe := frame_raiseUnimplementedOpcode i.opcode s.opcodeAddress s
  exact ⟨i.opcode, hencode, hmem, _, exec_undocumented s i hi, rfl, rfl, rfl, hframe.mono (by simp)⟩

/-! ## Decode and execute -/

/-- A running machine below its bound executes what an implemented opcode byte decodes to (spec/30_encoding.md R110). -/
theorem step_of_implemented {s : State} (hrun : s.run = .running)
    (hlimit : ∀ limit, s.cfg.pcLimit = some limit → s.pc.toNat < limit.val)
    (himpl : implemented s.cfg (fetch s).op = true) :
    step s = exec (decodeOp (fetch s).op (fetch s).b1 (fetch s).b2) (preIncrement s) := by
  obtain ⟨t, ht⟩ := exists_executes (decodeOp (fetch s).op (fetch s).b1 (fetch s).b2) (preIncrement s)
  rw [(StepsTo.executes hrun ((atPcLimit_eq_false_iff s).mpr hlimit) himpl ht).step_eq, ht.exec_eq]

/-- Three bytes are never too few (spec/30_encoding.md R91). -/
theorem decode_threeBytes (op b1 b2 : Byte) :
    decode [op, b1, b2] = .ok (decodeOp op b1 b2, [b1, b2].drop (operandCount op)) := by
  have hlong : ¬[b1, b2].length < operandCount op := Nat.not_lt.mpr (operandCount_le_two op)
  rw [decode, if_neg hlong]
  rfl

/-- Settles O7: the step decodes the three bytes it fetches, and the gate lets an implemented byte pass. -/
theorem stepRunsDecoded : Obligations.StepRunsDecoded := by
  intro s i rest hrun hlimit hdecode _ himpl
  rw [decode_threeBytes] at hdecode
  obtain ⟨rfl, -⟩ := Prod.mk.inj (Except.ok.inj hdecode)
  exact step_of_implemented hrun hlimit himpl

/-! ## A placed instruction -/

/-- Addresses two apart have different indices: MEM_SIZE is at least 4 (spec/00_scope.md R6). -/
theorem index_add_two_ne (s : State) (addr : Word) : s.index (addr + 2) ≠ s.index addr := by
  intro h
  rw [index_add] at h
  have hmod : 2 ≡ 0 [MOD memSize s.cfg] := Nat.ModEq.add_left_cancel' addr.toNat h
  have hle := Nat.le_of_dvd Nat.two_pos (Nat.modEq_zero_iff_dvd.mp hmod)
  have h4 := four_le_memSize s.cfg
  omega

/-- The fetch after withFetchWord reads the bytes placed: their indices differ (spec/20_memory.md R61). -/
theorem fetch_withFetchWord (s : State) (nbits w : Nat) : fetch (s.withFetchWord nbits w) =
    ⟨(tableBytes nbits w).getD 0 0, (tableBytes nbits w).getD 1 0, (tableBytes nbits w).getD 2 0⟩ := by
  have h01 := index_succ_ne s s.pc
  have h02 := index_add_two_ne s s.pc
  have h12 : s.index (s.pc + 2) ≠ s.index (s.pc + 1) := by
    rw [show s.pc + 2 = s.pc + 1 + 1 by bv_omega]
    exact index_succ_ne s (s.pc + 1)
  simp only [fetch, State.withFetchWord, memWrite_pc, memWrite_index, memRead_memWrite, h01, h02, h12, if_true,
    if_false]

theorem decodeTableWord_eq (nbits w : Nat) : decodeTableWord nbits w =
    some (decodeOp ((tableBytes nbits w).getD 0 0) ((tableBytes nbits w).getD 1 0)
      ((tableBytes nbits w).getD 2 0)) := by
  rw [decodeTableWord, tableBytes, decode_threeBytes]
  rfl

/-- Settles O6: the step fetches the bytes that withFetchWord placed, which are those that decodeTableWord reads. -/
theorem tableWordRuns : Obligations.TableWordRuns := by
  intro s nbits w hrun hlimit himpl
  have hfetch := fetch_withFetchWord s nbits w
  have hstep := step_of_implemented (s := s.withFetchWord nbits w) hrun hlimit (by rw [hfetch]; exact himpl)
  rw [hfetch] at hstep
  exact ⟨_, decodeTableWord_eq nbits w, hstep⟩

end Sys2Proof.Machine
end

section
/-! The conditions (spec/30_encoding.md R96). -/

namespace Sys2Proof.Machine

/-- Settles O26: each condition is its flag or the negation of it. -/
theorem conditionsTestTheirFlag : Obligations.ConditionsTestTheirFlag := by
  have hnot : ∀ v : Bool, (!v) = true ↔ v = false := by decide
  exact ⟨fun f => ⟨hnot f.z, .rfl, hnot f.cy, .rfl, hnot f.p, .rfl, hnot f.s, .rfl⟩, rfl⟩

end Sys2Proof.Machine
end

section
/-! Data transfer: the encoding of each pattern, what each operation puts in its destination, and the statements
(spec/40_data_transfer.md R120 to R134). -/

namespace Sys2Proof.Machine

/-! ## Encodings, by pattern (spec/30_encoding.md R100, R101) -/

/-- The opcode byte of MOV is `01 DDD SSS`; the slot of M, M is HLT's. -/
theorem encode_ofMov (dst src : Operand) :
    encode (.ofMov dst src) = [BitVec.ofNat 8 (0x40 + 8 * dst.code + src.code)] := by
  cases dst with
  | reg r =>
    cases src with
    | reg q => cases r <;> cases q <;> rfl
    | m => cases r <;> rfl
  | m =>
    cases src with
    | reg q => cases q <;> rfl
    | m => rfl

/-- The opcode byte of MVI is `00 DDD 110`. -/
theorem encode_ofMvi (dst : Operand) (d8 : Byte) :
    encode (.ofMvi dst d8) = [BitVec.ofNat 8 (0x06 + 8 * dst.code), d8] := by
  cases dst with
  | reg r => cases r <;> rfl
  | m => rfl

/-- The opcode byte of LXI is `00 RP0 001`, and the low byte of the word comes first. -/
theorem encode_ofLxi (k : RegPair) (b1 b2 : Byte) :
    encode (.ofLxi k (joinBytes b2 b1)) = [BitVec.ofNat 8 (0x01 + 16 * k.code), b1, b2] := by
  have hword : encode (.ofLxi k (joinBytes b2 b1)) =
      [BitVec.ofNat 8 (0x01 + 16 * k.code), lowByte (joinBytes b2 b1), highByte (joinBytes b2 b1)] := by
    cases k <;> rfl
  rw [hword, lowByte_joinBytes, highByte_joinBytes]

/-! ## Using `advance` -/

/-- Frames of the data transfer statements name PC last. -/
theorem UnchangedExcept.pc_last {p : List Part} {s t : State} (h : UnchangedExcept (.pc :: p) s t) :
    UnchangedExcept (p ++ [.pc]) s t :=
  h.mono (List.perm_append_singleton _ _).symm.subset

theorem StoresByte.advance {addr : Word} {v : Byte} {s t : State} (h : StoresByte addr v s t) (k : Nat) :
    StoresByte addr v s (advance k t) :=
  fun at_ => (advance_memRead t k at_).trans (h at_)

theorem StoresWord.advance {addr w : Word} {s t : State} (h : StoresWord addr w s t) (k : Nat) :
    StoresWord addr w s (advance k t) :=
  fun at_ => (advance_memRead t k at_).trans (h at_)

/-! ## MOV and MVI -/

theorem move_pc (dst src : Operand) (s : State) : (move dst src s).pc = s.pc := by simp [move]

theorem moveImmediate_pc (dst : Operand) (d8 : Byte) (s : State) : (moveImmediate dst d8 s).pc = s.pc + 1 := by
  simp [moveImmediate]

/-- MOV to a register, from a register or from M: the source is read in the state before the write, so that MOV H,M and
MOV L,M use the old HL (spec/40_data_transfer.md R121, R122). -/
theorem exec_ofMov_reg (dst : Reg) (src : Operand) (s : State) :
    ∃ t, exec (.ofMov (.reg dst) src) s = .next t ∧ t.reg dst = readOperand src s ∧ t.pc = s.pc ∧
      UnchangedExcept [.reg dst, .pc] s t := by
  have hreg : (move (.reg dst) src s).reg dst = readOperand src s := by simp [move, writeOperand]
  exact ⟨_, exec_ofMov (.reg dst) src s (nomatch ·.1), hreg, move_pc (.reg dst) src s,
    (frame_move (.reg dst) src s).pc_last⟩

/-- Settles O27: MOV with a register as its source. -/
theorem movBetweenRegisters : Obligations.MovBetweenRegisters := fun dst src s =>
  ⟨encode_ofMov (.reg dst) (.reg src), exec_ofMov_reg dst (.reg src) s⟩

/-- Settles O28: MOV with M as its source, the byte at HL. -/
theorem movFromMemory : Obligations.MovFromMemory := by
  refine fun dst s => ⟨?_, exec_ofMov_reg dst .m s⟩
  rw [encode_ofMov, Nat.add_right_comm]
  rfl

/-- Settles O29: the write to the operand M is a store at HL. -/
theorem storesAtHL : Obligations.StoresAtHL := by
  refine ⟨fun src s => ⟨encode_ofMov .m (.reg src), _, exec_ofMov .m (.reg src) s (nomatch ·.2), ?_, ?_⟩,
    fun d8 s => ⟨encode_ofMvi .m d8, _, exec_ofMvi .m d8 s, ?_, ?_⟩⟩
  · exact (storesByte_memWrite s s.hl (s.reg src)).advance 0
  · exact ⟨move_pc .m (.reg src) s, (frame_move .m (.reg src) s).pc_last⟩
  · exact (storesByte_memWrite s s.hl d8).advance 1
  · exact ⟨moveImmediate_pc .m d8 s, (frame_moveImmediate .m d8 s).pc_last⟩

/-- Settles O30: the write to a register operand, read back. -/
theorem mviRegister : Obligations.MviRegister := by
  intro dst d8 s
  have hreg : (moveImmediate (.reg dst) d8 s).reg dst = d8 := by simp [moveImmediate, writeOperand]
  exact ⟨encode_ofMvi (.reg dst) d8, _, exec_ofMvi (.reg dst) d8 s, hreg, moveImmediate_pc (.reg dst) d8 s,
    (frame_moveImmediate (.reg dst) d8 s).pc_last⟩

/-! ## LXI -/

theorem loadPairImmediate_pc (k : RegPair) (d16 : Word) (s : State) :
    (loadPairImmediate k d16 s).pc = s.pc + 2 := by
  simp [loadPairImmediate]

/-- Settles O31: the four pairs, each the word of the two operand bytes. -/
theorem lxiPairsAndSP : Obligations.LxiPairsAndSP := by
  intro b1 b2 s
  have hexec (k : RegPair) := exec_ofLxi k (joinBytes b2 b1) s
  have hpc (k : RegPair) := loadPairImmediate_pc k (joinBytes b2 b1) s
  have hframe (k : RegPair) := (frame_loadPairImmediate k (joinBytes b2 b1) s).pc_last
  have hlow := lowByte_joinBytes b2 b1
  have hhigh := highByte_joinBytes b2 b1
  refine ⟨⟨encode_ofLxi .bc b1 b2, _, hexec .bc, ?_⟩, ⟨encode_ofLxi .de b1 b2, _, hexec .de, ?_⟩,
    ⟨encode_ofLxi .hl b1 b2, _, hexec .hl, ?_⟩, ⟨encode_ofLxi .sp b1 b2, _, hexec .sp, ?_⟩⟩
  · exact ⟨hlow, hhigh, hpc .bc, hframe .bc⟩
  · exact ⟨hlow, hhigh, hpc .de, hframe .de⟩
  · exact ⟨hlow, hhigh, hpc .hl, hframe .hl⟩
  · exact ⟨joinBytes_toNat b2 b1, hpc .sp, hframe .sp⟩

/-! ## Loads and stores of A -/

/-- LDAX loads A from the address in the pair (spec/40_data_transfer.md R132). -/
theorem exec_ofLdax_loads (k : IndexPair) (s : State) :
    ∃ t, exec (.ofLdax k) s = .next t ∧ t.a = memRead s (s.indexAddress k) ∧ t.pc = s.pc ∧
      UnchangedExcept [.reg .a, .pc] s t :=
  ⟨_, exec_ofLdax k s, rfl, nextAddress_zero s, (frame_loadAccIndirect k s).pc_last⟩

/-- STAX stores A at the address in the pair (spec/40_data_transfer.md R133). -/
theorem exec_ofStax_stores (k : IndexPair) (s : State) :
    ∃ t, exec (.ofStax k) s = .next t ∧ StoresByte (s.indexAddress k) s.a s t ∧ t.pc = s.pc ∧
      UnchangedExcept [.mem, .pc] s t :=
  ⟨_, exec_ofStax k s, (storesByte_memWrite s _ s.a).advance 0, nextAddress_zero s,
    (frame_storeAccIndirect k s).pc_last⟩

/-- Settles O32: LDA at its operand, LDAX at either pair. -/
theorem accumulatorLoads : Obligations.AccumulatorLoads := by
  refine ⟨fun a16 s => ⟨rfl, _, (Executes.lda a16).exec_eq, rfl, rfl, (frame_loadAccDirect a16 s).pc_last⟩, ?_, ?_⟩
  · exact fun s => ⟨rfl, exec_ofLdax_loads .bc s⟩
  · exact fun s => ⟨rfl, exec_ofLdax_loads .de s⟩

/-- Settles O33: STA at its operand, STAX at either pair. -/
theorem accumulatorStores : Obligations.AccumulatorStores := by
  refine ⟨fun a16 s => ⟨rfl, _, (Executes.sta a16).exec_eq, ?_, rfl, (frame_storeAccDirect a16 s).pc_last⟩, ?_, ?_⟩
  · exact (storesByte_memWrite s a16 s.a).advance 2
  · exact fun s => ⟨rfl, exec_ofStax_stores .bc s⟩
  · exact fun s => ⟨rfl, exec_ofStax_stores .de s⟩

/-! ## LHLD, SHLD and XCHG -/

/-- Settles O34: both move the word HL, whose low byte is L and whose high byte is H, from or to a16. -/
theorem directTransferOfHL : Obligations.DirectTransferOfHL := by
  refine ⟨fun a16 s => ⟨rfl, _, (Executes.lhld a16).exec_eq, ?_, ?_, rfl, (frame_loadHLDirect a16 s).pc_last⟩,
    fun a16 s => ⟨rfl, _, (Executes.shld a16).exec_eq, ?_⟩⟩
  · exact lowByte_joinBytes (memRead s (a16 + 1)) (memRead s a16)
  · exact highByte_joinBytes (memRead s (a16 + 1)) (memRead s a16)
  · have hstore : StoresWord a16 s.hl s (storeHLDirect a16 s) := (storesWord_memWriteWord s a16 s.hl).advance 2
    have hlow : memRead (storeHLDirect a16 s) a16 = s.l := hstore.low.trans (lowByte_joinBytes s.h s.l)
    have hhigh : memRead (storeHLDirect a16 s) (a16 + 1) = s.h := hstore.high.trans (highByte_joinBytes s.h s.l)
    have hothers (addr : Word) (h0 : s.index addr ≠ s.index a16) (h1 : s.index addr ≠ s.index (a16 + 1)) :
        memRead (storeHLDirect a16 s) addr = memRead s addr :=
      hstore.onlyAt addr (by simpa using ⟨h0, h1⟩)
    exact ⟨hlow, hhigh, hothers, rfl, (frame_storeHLDirect a16 s).pc_last⟩

/-- XCHG undoes itself (spec/40_data_transfer.md R134). -/
theorem reg_exchangeHLDE_twice (s : State) (r : Reg) : (exchangeHLDE (exchangeHLDE s)).reg r = s.reg r := by
  cases r <;> rfl

/-- Settles O35: the exchange reads all four registers before it writes any. -/
theorem xchgSwapsPairs : Obligations.XchgSwapsPairs := fun s =>
  ⟨rfl, _, Executes.xchg.exec_eq, rfl, rfl, rfl, rfl, nextAddress_zero s, (frame_exchangeHLDE s).pc_last,
    _, Executes.xchg.exec_eq, reg_exchangeHLDE_twice s⟩

end Sys2Proof.Machine
end

section
/-! The arithmetic instructions: the operand fetch (spec/41_arithmetic.md R170), the encoding of each pattern, what each
operation leaves in its destination and the flags, and the statements (R153 to R167). -/

namespace Sys2Proof.Machine

/-- Settles O23: both operand forms are read as the rule says, and the eight codes name the eight operands. -/
theorem operandFetch : Obligations.OperandFetch := by
  have hcode : ∀ k : Fin 8, (Operand.ofCode k).code = k.val := by decide
  exact ⟨fun _ _ => rfl, fun _ => rfl, rfl, rfl, hcode⟩

/-! ## Encodings, by pattern (spec/30_encoding.md R100, R102) -/

/-- The opcode byte of an ALU operation on an operand is `10 ALU SSS`. -/
theorem encode_ofAlu (op : AluOp) (o : Operand) :
    encode (.ofAlu op o) = [BitVec.ofNat 8 (0x80 + 8 * op.code + o.code)] := by
  cases o with
  | reg r => cases op <;> cases r <;> rfl
  | m => cases op <;> rfl

/-- The opcode byte of INR is `00 DDD 100`. -/
theorem encode_ofInr (o : Operand) : encode (.ofInr o) = [BitVec.ofNat 8 (0x04 + 8 * o.code)] := by
  cases o with
  | reg r => cases r <;> rfl
  | m => rfl

/-- The opcode byte of DCR is `00 DDD 101`. -/
theorem encode_ofDcr (o : Operand) : encode (.ofDcr o) = [BitVec.ofNat 8 (0x05 + 8 * o.code)] := by
  cases o with
  | reg r => cases r <;> rfl
  | m => rfl

/-- The opcode byte of INX is `00 RP0 011`. -/
theorem encode_ofInx (k : RegPair) : encode (.ofInx k) = [BitVec.ofNat 8 (0x03 + 16 * k.code)] := by cases k <;> rfl

/-- The opcode byte of DCX is `00 RP1 011`. -/
theorem encode_ofDcx (k : RegPair) : encode (.ofDcx k) = [BitVec.ofNat 8 (0x0B + 16 * k.code)] := by cases k <;> rfl

/-- The opcode byte of DAD is `00 RP1 001`. -/
theorem encode_ofDad (k : RegPair) : encode (.ofDad k) = [BitVec.ofNat 8 (0x09 + 16 * k.code)] := by cases k <;> rfl

/-! ## Sums and differences in A -/

/-- Frames of the ALU statements name A first. -/
theorem frame_accumulate_a_first (r : AluResult) (k : Nat) (s : State) :
    UnchangedExcept (.reg .a :: .pc :: flagParts) s (advance k (setAccumulator r s)) :=
  (frame_accumulate r k s).mono (List.Perm.swap ..).subset

section
variable {i : Instr} {s : State} {v : Byte} {carry : Bool} {k : Nat} {next : Word}

/-- An instruction that accumulates `add8` leaves the sum in A and its flags (spec/41_arithmetic.md R151). -/
theorem exec_leaves_sum (hexec : exec i s = .next (advance k (setAccumulator (add8 s.a v carry) s)))
    (hnext : s.nextAddress k = next) :
    ∃ t, exec i s = .next t ∧ IsSum s.a v carry t.a t.flags ∧ t.pc = next ∧
      UnchangedExcept (.reg .a :: .pc :: flagParts) s t :=
  ⟨_, hexec, isSum_add8 s.a v carry, hnext, frame_accumulate_a_first _ k s⟩

/-- An instruction that accumulates `sub8` leaves the difference in A and its flags (spec/41_arithmetic.md R152). -/
theorem exec_leaves_difference (hexec : exec i s = .next (advance k (setAccumulator (sub8 s.a v carry) s)))
    (hnext : s.nextAddress k = next) :
    ∃ t, exec i s = .next t ∧ IsDifference s.a v carry t.a t.flags ∧ t.pc = next ∧
      UnchangedExcept (.reg .a :: .pc :: flagParts) s t :=
  ⟨_, hexec, isDifference_sub8 s.a v carry, hnext, frame_accumulate_a_first _ k s⟩

end

/-- Settles O36: each form accumulates the sum of A and its operand, with carry-in 0 or CY. -/
theorem additionsToA : Obligations.AdditionsToA :=
  ⟨fun o s =>
    ⟨⟨encode_ofAlu .add o, exec_leaves_sum (exec_ofAlu_add o s) (nextAddress_zero s)⟩,
      ⟨encode_ofAlu .adc o, exec_leaves_sum (exec_ofAlu_adc o s) (nextAddress_zero s)⟩⟩,
    fun d8 s =>
    ⟨⟨rfl, exec_leaves_sum (exec_ofAluImm_add d8 s) (nextAddress_one s)⟩,
      ⟨rfl, exec_leaves_sum (exec_ofAluImm_adc d8 s) (nextAddress_one s)⟩⟩⟩

/-- Settles O37: each form accumulates the difference of A and its operand, with borrow-in 0 or CY. -/
theorem subtractionsFromA : Obligations.SubtractionsFromA :=
  ⟨fun o s =>
    ⟨⟨encode_ofAlu .sub o, exec_leaves_difference (exec_ofAlu_sub o s) (nextAddress_zero s)⟩,
      ⟨encode_ofAlu .sbb o, exec_leaves_difference (exec_ofAlu_sbb o s) (nextAddress_zero s)⟩⟩,
    fun d8 s =>
    ⟨⟨rfl, exec_leaves_difference (exec_ofAluImm_sub d8 s) (nextAddress_one s)⟩,
      ⟨rfl, exec_leaves_difference (exec_ofAluImm_sbb d8 s) (nextAddress_one s)⟩⟩⟩

/-! ## INR and DCR -/

/-- An operand reads the byte written to it: the write to M does not move HL. -/
@[simp] theorem readOperand_writeOperand (o : Operand) (v : Byte) (s : State) :
    readOperand o (writeOperand o v s) = v := by
  cases o with
  | reg r => exact reg_setReg_same s r v
  | m => exact (memRead_memWrite s s.hl s.hl v).trans (if_pos rfl)

@[simp] theorem readOperand_setFlagsOnly (o : Operand) (r : AluResult) (s : State) :
    readOperand o (setFlagsOnly r s) = readOperand o s := by
  cases o with
  | reg q => exact setFlagsOnly_reg s r q
  | m => rfl

@[simp] theorem readOperand_advance (o : Operand) (k : Nat) (s : State) :
    readOperand o (advance k s) = readOperand o s := by
  cases o with
  | reg q => exact advance_reg s k q
  | m => rfl

theorem readOperand_increment (o : Operand) (s : State) : readOperand o (increment o s) = readOperand o s + 1 := by
  simp [increment, inc8]

theorem readOperand_decrement (o : Operand) (s : State) : readOperand o (decrement o s) = readOperand o s - 1 := by
  simp [decrement, dec8]

theorem increment_pc (o : Operand) (s : State) : (increment o s).pc = s.pc := by simp [increment]

theorem decrement_pc (o : Operand) (s : State) : (decrement o s).pc = s.pc := by simp [decrement]

/-- The flags INR leaves describe the byte its operand then reads (spec/41_arithmetic.md R161, R162). -/
theorem flagsOfResult_increment (o : Operand) (s : State) :
    FlagsOfResult (increment o s).flags (readOperand o (increment o s)) := by
  rw [readOperand_increment]
  exact flagsOfResult_zsp _ _ _

/-- The flags DCR leaves describe the byte its operand then reads (spec/41_arithmetic.md R163, R164). -/
theorem flagsOfResult_decrement (o : Operand) (s : State) :
    FlagsOfResult (decrement o s).flags (readOperand o (decrement o s)) := by
  rw [readOperand_decrement]
  exact flagsOfResult_zsp _ _ _

theorem increment_ac (o : Operand) (s : State) :
    (increment o s).flags.ac = true ↔ (readOperand o s).toNat % 16 = 15 := beq_iff_eq

theorem decrement_ac (o : Operand) (s : State) :
    (decrement o s).flags.ac = true ↔ (readOperand o s).toNat % 16 ≠ 0 := bne_iff_ne

/-- Settles O38: INR and DCR of a register operand, read back as the register. -/
theorem incrementDecrementRegister : Obligations.IncrementDecrementRegister := by
  intro r s
  have hinc : (increment (.reg r) s).reg r = s.reg r + 1 := readOperand_increment (.reg r) s
  have hdec : (decrement (.reg r) s).reg r = s.reg r - 1 := readOperand_decrement (.reg r) s
  refine ⟨⟨encode_ofInr (.reg r), _, exec_ofInr (.reg r) s, ?_, flagsOfResult_increment (.reg r) s,
      increment_ac (.reg r) s, increment_pc (.reg r) s, (frame_increment (.reg r) s).pc_last⟩,
    ⟨encode_ofDcr (.reg r), _, exec_ofDcr (.reg r) s, ?_, flagsOfResult_decrement (.reg r) s,
      decrement_ac (.reg r) s, decrement_pc (.reg r) s, (frame_decrement (.reg r) s).pc_last⟩⟩
  · rw [hinc]
    bv_omega
  · rw [hdec]
    bv_omega

theorem storesByte_increment_m (s : State) : StoresByte s.hl (memRead s s.hl + 1) s (increment .m s) :=
  storesByte_memWrite s s.hl _

theorem storesByte_decrement_m (s : State) : StoresByte s.hl (memRead s s.hl - 1) s (decrement .m s) :=
  storesByte_memWrite s s.hl _

/-- Settles O39: INR and DCR of the operand M are a store of the new byte at HL. -/
theorem incrementDecrementMemory : Obligations.IncrementDecrementMemory := by
  intro s
  have hinc (v : Byte) : v + 1 = BitVec.ofNat 8 (v.toNat + 1) := by bv_omega
  have hdec (v : Byte) : v - 1 = BitVec.ofNat 8 (v.toNat + 255) := by bv_omega
  refine ⟨⟨rfl, _, exec_ofInr .m s, ?_, flagsOfResult_increment .m s, increment_ac .m s, increment_pc .m s,
      (frame_increment .m s).pc_last⟩,
    ⟨rfl, _, exec_ofDcr .m s, ?_, flagsOfResult_decrement .m s, decrement_ac .m s, decrement_pc .m s,
      (frame_decrement .m s).pc_last⟩⟩
  · rw [← hinc]
    exact storesByte_increment_m s
  · rw [← hdec]
    exact storesByte_decrement_m s

/-! ## INX, DCX and DAD -/

@[simp] theorem advance_pair (k : Nat) (s : State) (q : RegPair) : (advance k s).pair q = s.pair q := by
  cases q <;> rfl

/-- Settles O40: the pair reads the word written to it, one more or one less. -/
theorem inxAndDcx : Obligations.InxAndDcx := by
  intro k s
  have hinc : (incrementPair k s).pair k = s.pair k + 1 := by simp [incrementPair]
  have hdec : (decrementPair k s).pair k = s.pair k - 1 := by simp [decrementPair]
  refine ⟨⟨encode_ofInx k, _, exec_ofInx k s, ?_, by simp [incrementPair], frame_incrementPair k s⟩,
    ⟨encode_ofDcx k, _, exec_ofDcx k s, ?_, by simp [decrementPair], frame_decrementPair k s⟩⟩
  · rw [hinc]
    bv_omega
  · rw [hdec]
    bv_omega

theorem hl_addPairToHL (k : RegPair) (s : State) :
    (addPairToHL k s).hl = BitVec.ofNat 16 (s.hl.toNat + (s.pair k).toNat) := joinBytes_high_low _

/-- Settles O41: HL reads the sum narrowed to 16 bits, and CY is decided by the sum before that. -/
theorem dadAddsToHL : Obligations.DadAddsToHL := by
  intro k s
  refine ⟨encode_ofDad k, _, exec_ofDad k s, ?_, decide_eq_true_iff, nextAddress_zero s,
    (frame_addPairToHL k s).pc_last⟩
  rw [hl_addPairToHL, BitVec.toNat_ofNat]

end Sys2Proof.Machine
end

section
/-! DAA (spec/41_arithmetic.md R168), and why it turns the binary sum of two packed decimal numbers into their decimal
sum. -/

namespace Sys2Proof.Machine

/-! ## The two corrections in numbers -/

/-- The correction of the low digit, from the flags and A as DAA finds them (`c_lo` of R168). -/
def daaLow (f : Flags) (a : Byte) : Nat := if f.ac = true ∨ 9 < a.toNat % 16 then 0x06 else 0x00

/-- The correction of the high digit, from the flags and A as DAA finds them (`c_hi` of R168). -/
def daaHigh (f : Flags) (a : Byte) : Nat :=
  if f.cy = true ∨ 9 < a.toNat / 16 ∨ (9 ≤ a.toNat / 16 ∧ 9 < a.toNat % 16) then 0x60 else 0x00

theorem daaLow_eq_iff (f : Flags) (a : Byte) : daaLow f a = 0x06 ↔ f.ac = true ∨ 9 < a.toNat % 16 :=
  Ne.ite_eq_left_iff (by decide)

theorem daaHigh_eq_iff (f : Flags) (a : Byte) : daaHigh f a = 0x60 ↔
    f.cy = true ∨ 9 < a.toNat / 16 ∨ (9 ≤ a.toNat / 16 ∧ 9 < a.toNat % 16) :=
  Ne.ite_eq_left_iff (by decide)

/-- Both corrections as the byte that is added to A. -/
def daaAddend (f : Flags) (a : Byte) : Byte := BitVec.ofNat 8 (daaHigh f a + daaLow f a)

theorem daaAddend_toNat (f : Flags) (a : Byte) : (daaAddend f a).toNat = daaHigh f a + daaLow f a := by
  unfold daaAddend daaHigh daaLow
  split_ifs <;> rfl

/-- The model adds that byte up from one byte per digit. -/
theorem daaAddend_eq (f : Flags) (a : Byte) : (if daaHigh f a = 0x60 then (0x60 : Byte) else 0x00) +
    (if daaLow f a = 0x06 then 0x06 else 0x00) = daaAddend f a := by
  simp only [daaHigh_eq_iff, daaLow_eq_iff]
  unfold daaAddend daaHigh daaLow
  split_ifs <;> rfl

/-- DAA is one addition of both corrections, but for CY, which says whether the high one was applied. -/
theorem daa8_eq (f : Flags) (a : Byte) : daa8 f a = ⟨(add8 a (daaAddend f a) false).res,
    { (add8 a (daaAddend f a) false).flags with cy := decide (daaHigh f a = 0x60) }⟩ := by
  have hhigh : (f.cy || decide (9 < a.toNat / 16) || (decide (9 ≤ a.toNat / 16) && decide (9 < a.toNat % 16))) =
      decide (daaHigh f a = 0x60) := by
    rw [Bool.eq_iff_iff]
    simp only [Bool.or_eq_true, Bool.and_eq_true, decide_eq_true_eq, or_assoc, daaHigh_eq_iff]
  have hlow : (f.ac || decide (9 < a.toNat % 16)) = decide (daaLow f a = 0x06) := by
    rw [Bool.eq_iff_iff]
    simp only [Bool.or_eq_true, decide_eq_true_eq, daaLow_eq_iff]
  simp only [daa8, hhigh, hlow, daaAddend_eq, decide_eq_true_eq]

theorem daa8_res_toNat (f : Flags) (a : Byte) :
    (daa8 f a).res.toNat = (a.toNat + daaHigh f a + daaLow f a) % 256 := by
  obtain ⟨hres, -⟩ := isSum_add8 a (daaAddend f a) false
  rw [daa8_eq, hres, daaAddend_toNat, ← Nat.add_assoc]
  rfl

theorem flagsOfResult_daa8 (f : Flags) (a : Byte) : FlagsOfResult (daa8 f a).flags (daa8 f a).res :=
  flagsOfResult_zsp _ _ _

theorem daa8_cy (f : Flags) (a : Byte) : (daa8 f a).flags.cy = true ↔ daaHigh f a = 0x60 := by
  rw [daa8_eq]
  exact decide_eq_true_iff

theorem daaHigh_mod (f : Flags) (a : Byte) : daaHigh f a % 16 = 0 := by
  unfold daaHigh
  split_ifs <;> rfl

theorem daaLow_lt (f : Flags) (a : Byte) : daaLow f a < 16 := by
  unfold daaLow
  split_ifs <;> decide

theorem daa8_ac (f : Flags) (a : Byte) : (daa8 f a).flags.ac = true ↔ 16 ≤ a.toNat % 16 + daaLow f a := by
  have hdigit : (daaAddend f a).toNat % 16 = daaLow f a := by
    rw [daaAddend_toNat, Nat.add_mod, daaHigh_mod, Nat.zero_add, Nat.mod_mod, Nat.mod_eq_of_lt (daaLow_lt f a)]
  obtain ⟨-, -, -, hac⟩ := isSum_add8 a (daaAddend f a) false
  rw [hdigit] at hac
  rw [daa8_eq]
  exact hac

/-- Settles O42: A and the flags are what `daa8` answers for the old A. -/
theorem daaCorrection : Obligations.DaaCorrection := fun s =>
  ⟨rfl, _, Executes.daa.exec_eq, daa8_res_toNat s.flags s.a, flagsOfResult_daa8 s.flags s.a, daa8_cy s.flags s.a,
    daa8_ac s.flags s.a, nextAddress_zero s, frame_accumulate_a_first _ 0 s⟩

/-! ## Packed decimal numbers -/

/-- A number below 100 in packed decimal: the tens in the high digit, the units in the low one. -/
def packDecimal (n : Nat) : Byte := BitVec.ofNat 8 (n / 10 * 16 + n % 10)

theorem packDecimal_toNat {n : Nat} (h : n < 100) : (packDecimal n).toNat = n / 10 * 16 + n % 10 := by
  rw [packDecimal, BitVec.toNat_ofNat]
  omega

section
variable {f : Flags} {a : Byte} {tens units : Nat}

/-! What DAA finds after the binary addition of two packed decimal numbers: `tens` is the sum of their tens digits,
`units` that of their units digits and the carry-in, A and CY hold `16 * tens + units`, AC the carry out of bit 3. -/

/-- DAA corrects the low digit exactly when the units make a decimal carry. -/
theorem daaLow_of_digitSums (ha : a.toNat = (16 * tens + units) % 256) (hac : f.ac = true ↔ 16 ≤ units)
    (hunits : units < 20) : daaLow f a = if 10 ≤ units then 0x06 else 0x00 := by
  have hcarry : (f.ac = true ∨ 9 < a.toNat % 16) ↔ 10 ≤ units := by
    rw [hac, ha]
    omega
  simp only [daaLow, hcarry]

/-- DAA corrects the high digit exactly when the tens, with the carry of the units, make a decimal carry. -/
theorem daaHigh_of_digitSums (ha : a.toNat = (16 * tens + units) % 256) (hcy : f.cy = true ↔ 256 ≤ 16 * tens + units)
    (htens : tens < 19) (hunits : units < 20) : daaHigh f a = if 10 ≤ tens + units / 10 then 0x60 else 0x00 := by
  have hcarry : (f.cy = true ∨ 9 < a.toNat / 16 ∨ (9 ≤ a.toNat / 16 ∧ 9 < a.toNat % 16)) ↔
      10 ≤ tens + units / 10 := by
    rw [hcy, ha]
    -- the units make no carry, a decimal carry only, or a carry out of bit 3
    obtain hnone | hdecimal | hbinary : units < 10 ∨ (10 ≤ units ∧ units < 16) ∨ 16 ≤ units := by omega
    · omega
    · omega
    · omega
  simp only [daaHigh, hcarry]

/-- The corrected sum has the decimal digits of the sum. -/
theorem daa8_res_of_digitSums (ha : a.toNat = (16 * tens + units) % 256) (hac : f.ac = true ↔ 16 ≤ units)
    (hcy : f.cy = true ↔ 256 ≤ 16 * tens + units) (htens : tens < 19) (hunits : units < 20) :
    (daa8 f a).res.toNat = (tens + units / 10) % 10 * 16 + units % 10 := by
  rw [daa8_res_toNat, daaHigh_of_digitSums ha hcy htens hunits, daaLow_of_digitSums ha hac hunits, ha]
  split_ifs <;> omega

/-- CY is the decimal carry of the sum. -/
theorem daa8_cy_of_digitSums (ha : a.toNat = (16 * tens + units) % 256) (hcy : f.cy = true ↔ 256 ≤ 16 * tens + units)
    (htens : tens < 19) (hunits : units < 20) : (daa8 f a).flags.cy = true ↔ 10 ≤ tens + units / 10 := by
  rw [daa8_cy, daaHigh_of_digitSums ha hcy htens hunits]
  exact Ne.ite_eq_left_iff (by decide)

end

/-- DAA turns the binary sum of two packed decimal numbers and a carry into their decimal sum. -/
theorem daa8_of_isSum {x y : Nat} {cin : Bool} {res : Byte} {f : Flags} (hx : x < 100) (hy : y < 100)
    (h : IsSum (packDecimal x) (packDecimal y) cin res f) :
    ((daa8 f res).flags.cy = true ↔ 100 ≤ x + y + cin.toNat) ∧
      (daa8 f res).res.toNat = (x + y + cin.toNat) % 100 / 10 * 16 + (x + y + cin.toNat) % 10 := by
  obtain ⟨hres, -, hcy, hac⟩ := h
  rw [packDecimal_toNat hx, packDecimal_toNat hy] at hres hcy hac
  have hcin : cin.toNat ≤ 1 := cin.toNat_le
  have hsum : x / 10 * 16 + x % 10 + (y / 10 * 16 + y % 10) + cin.toNat =
      16 * (x / 10 + y / 10) + (x % 10 + y % 10 + cin.toNat) := by omega
  rw [hsum] at hres hcy
  have htens : x / 10 + y / 10 < 19 := by omega
  have hunits : x % 10 + y % 10 + cin.toNat < 20 := by omega
  have hac' : f.ac = true ↔ 16 ≤ x % 10 + y % 10 + cin.toNat := hac.trans (by omega)
  rw [daa8_cy_of_digitSums hres hcy htens hunits, daa8_res_of_digitSums hres hac' hcy htens hunits]
  omega

/-- Settles O43: ACI leaves the binary sum of the two packed numbers, and DAA corrects it. -/
theorem decimalAdditionByDaa : Obligations.DecimalAdditionByDaa := by
  intro x y s hx hy ha
  obtain ⟨-, haci⟩ := additionsToA
  obtain ⟨-, -, t, hexec, hsum, -⟩ := haci (packDecimal y) s
  rw [show s.a = packDecimal x from ha] at hsum
  obtain ⟨hcy, hres⟩ := daa8_of_isSum hx hy hsum
  refine ⟨t, _, hexec, Executes.daa.exec_eq, hcy, BitVec.eq_of_toNat_eq ?_⟩
  rw [BitVec.toNat_ofNat]
  exact hres.trans (by omega)

end Sys2Proof.Machine
end

section
/-! The logical, compare, rotate and carry instructions: what each leaves in A and the flags, and the statements
(spec/42_logical.md R181 to R195). -/

namespace Sys2Proof.Machine

/-! ## AND, XOR and OR in A -/

/-- An instruction that accumulates a result whose CY is 0 leaves it in A, with the flags of that byte and the given AC
(spec/42_logical.md R180). -/
theorem exec_leaves_logical {i : Instr} {s : State} {res : Byte} {ac acOut : Bool} {k : Nat} {next : Word}
    (hexec : exec i s = .next (advance k (setAccumulator ⟨res, zsp res false ac⟩ s))) (hac : ac = acOut)
    (hnext : s.nextAddress k = next) :
    ∃ t, exec i s = .next t ∧ t.a = res ∧ FlagsOfResult t.flags t.a ∧ t.flags.cy = false ∧ t.flags.ac = acOut ∧
      t.pc = next ∧ UnchangedExcept (.reg .a :: .pc :: flagParts) s t :=
  ⟨_, hexec, rfl, flagsOfResult_zsp res false ac, rfl, hac, hnext, frame_accumulate_a_first _ k s⟩

/-- Settles O44: each form accumulates its bitwise result. The AC of ANA and ANI is a bit of the OR, that is the OR of
the two bits; that of the others is 0. -/
theorem logicalOperations : Obligations.LogicalOperations :=
  ⟨fun o s =>
    ⟨⟨encode_ofAlu .ana o, exec_leaves_logical (exec_ofAlu_ana o s) BitVec.getLsbD_or (nextAddress_zero s)⟩,
      ⟨encode_ofAlu .xra o, exec_leaves_logical (exec_ofAlu_xra o s) rfl (nextAddress_zero s)⟩,
      ⟨encode_ofAlu .ora o, exec_leaves_logical (exec_ofAlu_ora o s) rfl (nextAddress_zero s)⟩⟩,
    fun d8 s =>
    ⟨⟨rfl, exec_leaves_logical (exec_ofAluImm_ana d8 s) BitVec.getLsbD_or (nextAddress_one s)⟩,
      ⟨rfl, exec_leaves_logical (exec_ofAluImm_xra d8 s) rfl (nextAddress_one s)⟩,
      ⟨rfl, exec_leaves_logical (exec_ofAluImm_ora d8 s) rfl (nextAddress_one s)⟩⟩⟩

/-! ## Comparison -/

/-- A difference without borrow-in has Z set exactly when its operands are equal (spec/42_logical.md R187). -/
theorem IsDifference.z_iff {a v res : Byte} {f : Flags} (h : IsDifference a v false res f) : f.z = true ↔ a = v := by
  obtain ⟨hres, ⟨hz, -⟩, -⟩ := h
  rw [hz, ← BitVec.toNat_inj]
  have ha := a.isLt
  have hv := v.isLt
  simp only [Bool.toNat_false] at hres
  omega

/-- An instruction that runs `compareWith` leaves the flags of the difference and keeps A. -/
theorem exec_leaves_comparison {i : Instr} {s : State} {v : Byte} {k : Nat} {next : Word}
    (hexec : exec i s = .next (compareWith v k s)) (hnext : s.nextAddress k = next) :
    ∃ t, exec i s = .next t ∧ (∃ res : Byte, IsDifference s.a v false res t.flags) ∧
      (t.flags.z = true ↔ s.a = v) ∧ t.pc = next ∧ UnchangedExcept (.pc :: flagParts) s t := by
  have hdiff := isDifference_sub8 s.a v false
  exact ⟨_, hexec, ⟨_, hdiff⟩, hdiff.z_iff, hnext, frame_runAlu .cmp v k s⟩

/-- Settles O45: each form leaves the flags of the difference of A and its operand. -/
theorem compareSetsFlagsOnly : Obligations.CompareSetsFlagsOnly :=
  ⟨fun o s => ⟨encode_ofAlu .cmp o, exec_leaves_comparison (exec_ofAlu_cmp o s) (nextAddress_zero s)⟩,
    fun d8 s => ⟨rfl, exec_leaves_comparison (exec_ofAluImm_cmp d8 s) (nextAddress_one s)⟩⟩

/-! ## Rotates -/

/-- A byte shifted left, with `c` as its new bit 0. -/
theorem toNat_low_append_bit (a : Byte) (c : BitVec 1) :
    (a.extractLsb' 0 7 ++ c : Byte).toNat = 2 * a.toNat % 256 + c.toNat := by
  rw [BitVec.toNat_append, ← Nat.shiftLeft_add_eq_or_of_lt c.isLt, Nat.shiftLeft_eq, BitVec.extractLsb'_toNat,
    Nat.shiftRight_zero]
  omega

/-- A byte shifted right, with `c` as its new bit 7. -/
theorem toNat_bit_append_high (a : Byte) (c : BitVec 1) :
    (c ++ a.extractLsb' 1 7 : Byte).toNat = a.toNat / 2 + 128 * c.toNat := by
  have ha := a.isLt
  rw [BitVec.toNat_append, ← Nat.shiftLeft_add_eq_or_of_lt (BitVec.isLt _), Nat.shiftLeft_eq,
    BitVec.extractLsb'_toNat, Nat.shiftRight_eq_div_pow]
  omega

theorem toNat_extract_bit_seven (a : Byte) : (a.extractLsb' 7 1).toNat = a.toNat / 128 := by
  have ha := a.isLt
  rw [BitVec.extractLsb'_toNat, Nat.shiftRight_eq_div_pow]
  omega

theorem toNat_extract_bit_zero (a : Byte) : (a.extractLsb' 0 1).toNat = a.toNat % 2 := by
  rw [BitVec.extractLsb'_toNat, Nat.shiftRight_zero]

/-- Bit 0 of a byte is set exactly when it is odd. -/
theorem getLsbD_zero_iff_odd (v : Byte) : v.getLsbD 0 = true ↔ v.toNat % 2 = 1 := by
  rw [BitVec.getLsbD, Nat.testBit_zero, decide_eq_true_iff]

/-- An instruction that writes A and CY through `setRotated` leaves them, keeps PC past its one byte, and changes
nothing else (spec/42_logical.md R180). -/
theorem exec_leaves_rotated {i : Instr} {s : State} {a : Byte} {cy : Bool} {n : Nat} {out : Prop}
    (hexec : exec i s = .next (advance 0 (setRotated a cy s))) (ha : a.toNat = n) (hcy : cy = true ↔ out) :
    ∃ t, exec i s = .next t ∧ t.a.toNat = n ∧ (t.flags.cy = true ↔ out) ∧ t.pc = s.pc ∧
      UnchangedExcept [.reg .a, .cy, .pc] s t :=
  ⟨_, hexec, ha, hcy, nextAddress_zero s, ((frame_setRotated a cy s).advance 0).pc_last⟩

/-- Settles O46: a left rotate puts bit 7 in CY, a right rotate bit 0; the bit that enters A is that bit or the old
CY. -/
theorem rotatesOfA : Obligations.RotatesOfA := by
  intro s
  refine ⟨⟨rfl, exec_leaves_rotated Executes.rlc.exec_eq ?_ (getLsbD_seven s.a)⟩,
    ⟨rfl, exec_leaves_rotated Executes.rrc.exec_eq ?_ (getLsbD_zero_iff_odd s.a)⟩,
    ⟨rfl, exec_leaves_rotated Executes.ral.exec_eq ?_ (getLsbD_seven s.a)⟩,
    ⟨rfl, exec_leaves_rotated Executes.rar.exec_eq ?_ (getLsbD_zero_iff_odd s.a)⟩⟩
  · rw [toNat_low_append_bit, toNat_extract_bit_seven]
  · rw [toNat_bit_append_high, toNat_extract_bit_zero]
  · rw [toNat_low_append_bit, BitVec.toNat_ofBool]
  · rw [toNat_bit_append_high, BitVec.toNat_ofBool]

/-! ## CMA, CMC and STC -/

/-- Settles O47: CMA writes A alone, CMC and STC write CY alone. -/
theorem complementsAndCarry : Obligations.ComplementsAndCarry := fun s =>
  ⟨⟨rfl, _, Executes.cma.exec_eq, BitVec.toNat_not, nextAddress_zero s, (frame_complementAcc s).pc_last⟩,
    ⟨rfl, _, Executes.cmc.exec_eq, rfl, nextAddress_zero s, (frame_complementCarry s).pc_last⟩,
    ⟨rfl, _, Executes.stc.exec_eq, rfl, nextAddress_zero s, (frame_setCarry s).pc_last⟩⟩

end Sys2Proof.Machine
end

section
/-! The branch instructions: the encoding of each conditional pattern and of RST, what a taken call and a taken return
leave, and the statements (spec/43_branch.md R212 to R220). -/

namespace Sys2Proof.Machine

/-! ## Encodings, by pattern (spec/30_encoding.md R103) -/

/-- The opcode byte of a conditional jump is `11 CCC 010`. -/
theorem encode_ofJcc (k : Cond) (a16 : Word) :
    encode (.ofJcc k a16) = [BitVec.ofNat 8 (0xC2 + 8 * k.code), lowByte a16, highByte a16] := by cases k <;> rfl

/-- The opcode byte of a conditional call is `11 CCC 100`. -/
theorem encode_ofCcc (k : Cond) (a16 : Word) :
    encode (.ofCcc k a16) = [BitVec.ofNat 8 (0xC4 + 8 * k.code), lowByte a16, highByte a16] := by cases k <;> rfl

/-- The opcode byte of a conditional return is `11 CCC 000`. -/
theorem encode_ofRcc (k : Cond) : encode (.ofRcc k) = [BitVec.ofNat 8 (0xC0 + 8 * k.code)] := by cases k <;> rfl

/-- The opcode byte of RST is `11 NNN 111`. -/
theorem encode_ofRst (n : Fin 8) : encode (.ofRst n) = [BitVec.ofNat 8 (0xC7 + 8 * n.val)] := by
  match n with
  | 0 | 1 | 2 | 3 | 4 | 5 | 6 | 7 => rfl

/-- The opcode byte of JMP is 0xC3, and the low byte of the target comes first. -/
theorem encode_jmp (b1 b2 : Byte) : encode (.jmp (joinBytes b2 b1)) = [0xC3, b1, b2] := by
  have hword : encode (.jmp (joinBytes b2 b1)) =
      [0xC3, lowByte (joinBytes b2 b1), highByte (joinBytes b2 b1)] := rfl
  rw [hword, lowByte_joinBytes, highByte_joinBytes]

/-! ## Jumps -/

theorem jumpIf_pc (k : Cond) (a16 : Word) (s : State) :
    (jumpIf k a16 s).pc = if s.flags.holds k = true then a16 else s.pc + 2 := by
  unfold jumpIf
  split
  · rfl
  · exact nextAddress_two s

/-- Settles O48: every form moves PC alone, to a word of two bytes or as its condition says. -/
theorem jumps : Obligations.Jumps := by
  refine ⟨fun b1 b2 s => ?_, fun s => ?_, fun k a16 s => ?_⟩
  · exact ⟨encode_jmp b1 b2, _, (Executes.jmp _).exec_eq, joinBytes_toNat b2 b1, frame_jumpTo _ s⟩
  · exact ⟨rfl, _, Executes.pchl.exec_eq, joinBytes_toNat s.h s.l, frame_jumpToHL s⟩
  · exact ⟨encode_ofJcc k a16, _, exec_ofJcc k a16 s, jumpIf_pc k a16 s, frame_jumpIf k a16 s⟩

/-! ## Calls and restarts -/

theorem StoresWord.goTo {addr w : Word} {s t : State} (h : StoresWord addr w s t) (target : Word) :
    StoresWord addr w s (goTo target t) :=
  fun at_ => (goTo_memRead t target at_).trans (h at_)

/-- `t` is `s` after a taken call: the return address `ret` is pushed and PC is the target (spec/43_branch.md R214). -/
def CallsTo (target ret : Word) (s t : State) : Prop :=
  StoresWord (s.sp - 2) ret s t ∧ t.sp = s.sp - 2 ∧ t.pc = target ∧ UnchangedExcept [.sp, .mem, .pc] s t

theorem callsTo_goTo_push16 (target ret : Word) (s : State) : CallsTo target ret s (goTo target (push16 ret s)) :=
  ⟨(storesWord_push16 s ret).goTo target, rfl, rfl, ((frame_push16 ret s).goTo target).pc_last⟩

theorem callsTo_callTo (a16 : Word) (s : State) : CallsTo a16 (s.pc + 2) s (callTo a16 s) :=
  callsTo_goTo_push16 a16 (s.pc + 2) s

/-- RST pushes the address behind its one byte (spec/43_branch.md R218). -/
theorem callsTo_restart (n : Nat) (s : State) : CallsTo (BitVec.ofNat 16 (8 * n)) s.pc s (restart n s) := by
  rw [restart, nextAddress_zero]
  exact callsTo_goTo_push16 _ s.pc s

/-- The target of RST is not narrowed: `8 * n` fits a word (spec/43_branch.md R218). -/
theorem restart_pc_toNat (n : Fin 8) (s : State) : (restart n.val s).pc.toNat = 8 * n.val := by
  rw [restart, goTo_pc, BitVec.toNat_ofNat]
  omega

/-- Settles O49: CALL, RST and a conditional call whose condition holds are taken calls; one whose condition fails moves
PC alone. -/
theorem callsAndRestarts : Obligations.CallsAndRestarts := by
  refine ⟨fun a16 s => ?_, fun n s => ⟨encode_ofRst n, _, exec_ofRst n s, ?_⟩,
    fun k a16 s => ⟨encode_ofCcc k a16, _, exec_ofCcc k a16 s, ?_⟩⟩
  · exact ⟨rfl, _, (Executes.call a16).exec_eq, callsTo_callTo a16 s⟩
  · obtain ⟨hstore, hsp, -, hframe⟩ := callsTo_restart n.val s
    exact ⟨hstore, hsp, restart_pc_toNat n s, hframe⟩
  · unfold callIf
    split
    · exact callsTo_callTo a16 s
    · exact ⟨nextAddress_two s, frame_goTo _ s⟩

/-! ## Returns -/

/-- A taken return: PC is the word at SP, and SP moves past it (spec/43_branch.md R216). -/
theorem returnFrom_leaves (s : State) :
    (returnFrom s).pc.toNat = (memRead s (s.sp + 1)).toNat * 256 + (memRead s s.sp).toNat ∧
      (returnFrom s).sp = s.sp + 2 ∧ UnchangedExcept [.sp, .pc] s (returnFrom s) :=
  ⟨joinBytes_toNat _ _, rfl, (frame_returnFrom s).pc_last⟩

/-- Settles O50: RET and a conditional return whose condition holds are taken returns; one whose condition fails leaves
all as it is. -/
theorem returns : Obligations.Returns := by
  refine ⟨fun s => ⟨rfl, _, Executes.ret.exec_eq, returnFrom_leaves s⟩,
    fun k s => ⟨encode_ofRcc k, _, exec_ofRcc k s, ?_⟩⟩
  unfold returnIf
  split
  · exact returnFrom_leaves s
  · exact ⟨nextAddress_zero s, frame_goTo _ s⟩

/-! ## A call and its return -/

/-- The word on top of the stack depends on the two bytes there alone (spec/20_memory.md R76). -/
theorem topOfStack_congr {r t : State} (hlow : memRead r r.sp = memRead t t.sp)
    (hhigh : memRead r (r.sp + 1) = memRead t (t.sp + 1)) : topOfStack r = topOfStack t := by
  unfold topOfStack memReadWord
  rw [hlow, hhigh]

/-- Settles O51: the word that RET pops is the one that CALL pushed, for it depends on what is undisturbed alone. -/
theorem callThenReturn : Obligations.CallThenReturn := by
  intro a16 s t r u hcall hsp hlow hhigh hret
  obtain rfl : callTo a16 s = t := Host.Outcome.next.inj ((Executes.call a16).exec_eq.symm.trans hcall)
  obtain rfl : returnFrom r = u := Host.Outcome.next.inj (Executes.ret.exec_eq.symm.trans hret)
  obtain ⟨hpushedHigh, hpushedLow, -⟩ := pushThenPop s (s.pc + 2)
  refine ⟨hpushedHigh, hpushedLow, ?_, ?_⟩
  · calc topOfStack r = topOfStack (callTo a16 s) := topOfStack_congr hlow hhigh
      _ = s.pc + 2 := topOfStack_push16 s (s.pc + 2)
  · calc r.sp + 2 = s.sp - 2 + 2 := congrArg (· + 2) hsp
      _ = s.sp := BitVec.sub_add_cancel s.sp 2

end Sys2Proof.Machine
end

section
/-! The stack, port and machine-control instructions: the encoding of PUSH and POP, what each pair moves to and from the
stack, and the statements (spec/44_stack_io_control.md R241 to R252). -/

namespace Sys2Proof.Machine

/-! ## Encodings, by pattern (spec/30_encoding.md R103) -/

/-- The opcode byte of PUSH is `11 RP0 101`. -/
theorem encode_ofPush (k : StackPair) : encode (.ofPush k) = [BitVec.ofNat 8 (0xC5 + 16 * k.code)] := by
  cases k <;> rfl

/-! ## What exec answers, at most once -/

theorem Executes.eq_of_exec {i : Instr} {s t u : State} (h : Executes s i t) (hexec : exec i s = .next u) : t = u :=
  Host.Outcome.next.inj (h.exec_eq.symm.trans hexec)

/-! ## The flag byte -/

/-- The flag byte as the number of its bits (spec/10_state.md R30). -/
theorem flagByte_eq_ofNat (f : Flags) : flagByte f = BitVec.ofNat 8
    (2 + 128 * f.s.toNat + 64 * f.z.toNat + 16 * f.ac.toNat + 4 * f.p.toNat + f.cy.toNat) := by
  rw [← flagByte_toNat, BitVec.ofNat_toNat, BitVec.setWidth_eq]

/-- Bits 5, 3 and 1 of every flag byte are 0, 0 and 1 (spec/44_stack_io_control.md R242). -/
theorem flagByte_fixedBits (f : Flags) :
    (flagByte f).getLsbD 5 = false ∧ (flagByte f).getLsbD 3 = false ∧ (flagByte f).getLsbD 1 = true := by
  rcases f with ⟨z, s, p, cy, ac⟩
  cases z <;> cases s <;> cases p <;> cases cy <;> cases ac <;> decide

/-- The flag byte of the flags of a byte is that byte with its fixed bits set anew: the five flag bits are read back,
the other three depend on no flag. -/
theorem flagByte_flagsOfByte (v : Byte) : flagByte (flagsOfByte v) = (v &&& 0b11010111) ||| 0b00000010 := by
  obtain ⟨h5, h3, h1⟩ := flagByte_fixedBits (flagsOfByte v)
  have hflags := flagsOfByte_flagByte (flagsOfByte v)
  generalize flagByte (flagsOfByte v) = b at *
  obtain ⟨h6, h7, h2, h0, h4⟩ := Flags.mk.inj hflags
  refine BitVec.eq_of_getLsbD_eq fun i hi => ?_
  match i with
  | 0 => simpa using h0
  | 1 => simpa using h1
  | 2 => simpa using h2
  | 3 => simpa using h3
  | 4 => simpa using h4
  | 5 => simpa using h5
  | 6 => simpa using h6
  | 7 => simpa using h7

/-! ## PUSH and POP -/

/-- PUSH stores its pair at SP - 2 and moves SP there (spec/44_stack_io_control.md R241, R242). -/
theorem push_leaves (k : StackPair) (s : State) :
    StoresWord (s.sp - 2) (s.stackPair k) s (push k s) ∧ (push k s).sp = s.sp - 2 ∧ (push k s).pc = s.pc ∧
      UnchangedExcept [.sp, .mem, .pc] s (push k s) :=
  ⟨(storesWord_push16 s _).advance 0, rfl, nextAddress_zero _, (frame_push k s).pc_last⟩

/-- Settles O52: PUSH stores the word of its pair; that of PSW has the flag byte, in numbers, below A. -/
theorem pushStoresPair : Obligations.PushStoresPair := by
  intro k s
  refine ⟨encode_ofPush k, _, exec_ofPush k s, ?_⟩
  have hleaves := push_leaves k s
  cases k with
  | psw => rwa [State.stackPair, flagByte_eq_ofNat] at hleaves
  | _ => exact hleaves

/-- The low byte of the word on top of the stack is the byte at SP (spec/20_memory.md R76). -/
theorem lowByte_topOfStack (s : State) : lowByte (topOfStack s) = memRead s s.sp := lowByte_joinBytes _ _

/-- The high byte of the word on top of the stack is the byte at SP + 1 (spec/20_memory.md R76). -/
theorem highByte_topOfStack (s : State) : highByte (topOfStack s) = memRead s (s.sp + 1) := highByte_joinBytes _ _

theorem pop_sp (k : StackPair) (s : State) : (pop k s).sp = s.sp + 2 := by cases k <;> rfl

theorem pop_pc (k : StackPair) (s : State) : (pop k s).pc = s.pc := by simp [pop]

/-- Settles O53: POP takes its pair from the bytes at SP and SP + 1; a flag is by definition a bit of the first. -/
theorem popLoadsPair : Obligations.PopLoadsPair := by
  intro s
  have hlow := lowByte_topOfStack s
  have hhigh := highByte_topOfStack s
  refine ⟨⟨rfl, _, exec_ofPop .bc s, hlow, hhigh, pop_sp .bc s, pop_pc .bc s, ?_⟩,
    ⟨rfl, _, exec_ofPop .de s, hlow, hhigh, pop_sp .de s, pop_pc .de s, ?_⟩,
    ⟨rfl, _, exec_ofPop .hl s, hlow, hhigh, pop_sp .hl s, pop_pc .hl s, ?_⟩,
    ⟨rfl, _, exec_ofPop .psw s, hhigh, ?_⟩⟩
  · exact (frame_pop .bc s).mono (by decide)
  · exact (frame_pop .de s).mono (by decide)
  · exact (frame_pop .hl s).mono (by decide)
  · have hflags : (pop .psw s).flags = flagsOfByte (memRead s s.sp) := congrArg flagsOfByte hlow
    rw [hflags]
    exact ⟨rfl, rfl, rfl, rfl, rfl, pop_sp .psw s, pop_pc .psw s, (frame_pop .psw s).mono (by decide)⟩

/-! ## PUSH PSW and POP PSW in turn -/

/-- The word on top of the stack after PUSH is the pair pushed. -/
theorem topOfStack_push (k : StackPair) (s : State) : topOfStack (push k s) = s.stackPair k :=
  topOfStack_push16 s (s.stackPair k)

theorem sp_pop_push (j k : StackPair) (s : State) : (pop j (push k s)).sp = s.sp := by
  rw [pop_sp]
  exact BitVec.sub_add_cancel s.sp 2

/-- PUSH after POP stores its low byte where POP found it. -/
theorem memRead_push_pop (j k : StackPair) (s : State) :
    memRead (push k (pop j s)) s.sp = lowByte ((pop j s).stackPair k) := by
  obtain ⟨hstore, -⟩ := push_leaves k (pop j s)
  rw [pop_sp, BitVec.add_sub_cancel] at hstore
  exact hstore.low

/-- Settles O54: POP PSW after PUSH PSW reads back A and the flag byte; PUSH PSW after POP PSW stores the flag byte of
the flags read. -/
theorem popThenPushPsw : Obligations.PopThenPushPsw := by
  refine fun s t u => ⟨fun hpush hpop => ?_, fun hpop hpush => ?_⟩
  · obtain rfl : push .psw s = t := (Executes.push .psw).eq_of_exec hpush
    obtain rfl : pop .psw (push .psw s) = u := (Executes.pop .psw).eq_of_exec hpop
    have htop : topOfStack (push .psw s) = joinBytes s.a (flagByte s.flags) := topOfStack_push .psw s
    have ha : highByte (topOfStack (push .psw s)) = s.a := by rw [htop, highByte_joinBytes]
    have hflags : flagsOfByte (lowByte (topOfStack (push .psw s))) = s.flags := by
      rw [htop, lowByte_joinBytes, flagsOfByte_flagByte]
    exact ⟨ha, hflags, sp_pop_push .psw .psw s⟩
  · obtain rfl : pop .psw s = t := (Executes.pop .psw).eq_of_exec hpop
    obtain rfl : push .psw (pop .psw s) = u := (Executes.push .psw).eq_of_exec hpush
    calc memRead (push .psw (pop .psw s)) s.sp
        = lowByte ((pop .psw s).stackPair .psw) := memRead_push_pop .psw .psw s
      _ = flagByte (flagsOfByte (lowByte (topOfStack s))) := lowByte_joinBytes _ _
      _ = flagByte (flagsOfByte (memRead s s.sp)) := by rw [lowByte_topOfStack]
      _ = (memRead s s.sp &&& 0b11010111) ||| 0b00000010 := flagByte_flagsOfByte _

/-! ## XTHL and SPHL -/

/-- A word stored leaves every byte at another index (spec/20_memory.md R61). -/
theorem StoresWord.others {addr w a : Word} {s t : State} (h : StoresWord addr w s t)
    (hlow : s.index a ≠ s.index addr) (hhigh : s.index a ≠ s.index (addr + 1)) : memRead t a = memRead s a := by
  rw [h, if_neg hlow, if_neg hhigh]

/-- XTHL stores the old HL at SP (spec/44_stack_io_control.md R245). -/
theorem storesWord_exchangeStackTop (s : State) : StoresWord s.sp s.hl s (exchangeStackTop s) :=
  storesWord_memWriteWord s s.sp s.hl

/-- Settles O55: XTHL reads the word at SP in the state before it stores HL there; SPHL loads the word HL. -/
theorem xthlAndSphl : Obligations.XthlAndSphl := by
  refine fun s => ⟨⟨rfl, _, Executes.xthl.exec_eq, lowByte_topOfStack s, highByte_topOfStack s, ?_⟩,
    ⟨rfl, _, Executes.sphl.exec_eq, joinBytes_toNat s.h s.l, nextAddress_zero _, (frame_stackFromHL s).pc_last⟩⟩
  have hstore := storesWord_exchangeStackTop s
  have hlow : memRead (exchangeStackTop s) s.sp = s.l := hstore.low.trans (lowByte_joinBytes s.h s.l)
  have hhigh : memRead (exchangeStackTop s) (s.sp + 1) = s.h := hstore.high.trans (highByte_joinBytes s.h s.l)
  exact ⟨hlow, hhigh, fun _ => hstore.others, nextAddress_zero _, (frame_exchangeStackTop s).pc_last⟩

/-! ## Ports -/

/-- Settles O56: the byte that A receives is the one the history records. -/
theorem inputFromPort : Obligations.InputFromPort := fun p8 s =>
  ⟨rfl, _, (Executes.inPort p8).exec_eq, rfl, rfl, rfl, (frame_input p8 s).pc_last⟩

/-- Settles O57: the only part besides PC is the history, one event longer. -/
theorem outputToPort : Obligations.OutputToPort := fun p8 s =>
  ⟨rfl, _, (Executes.outPort p8).exec_eq, rfl, rfl, (frame_output p8 s).pc_last⟩

/-! ## Machine control -/

/-- Settles O58: EI and DI write INTE in the step itself, NOP moves PC alone. -/
theorem interruptEnableAndNop : Obligations.InterruptEnableAndNop := fun s =>
  ⟨⟨rfl, _, Executes.ei.exec_eq, rfl, nextAddress_zero s, (frame_enableInterrupts s).pc_last⟩,
    ⟨rfl, _, Executes.di.exec_eq, rfl, nextAddress_zero s, (frame_disableInterrupts s).pc_last⟩,
    ⟨rfl, _, Executes.nop.exec_eq, nextAddress_zero s, frame_noOperation s⟩⟩

/-- Settles O59: the state HLT leaves is halted, and a step from a halted state gives that state back. -/
theorem hltEndsTheRun : Obligations.HltEndsTheRun := by
  refine ⟨rfl, fun s => ⟨rfl, _, Executes.hlt.exec_eq, rfl, nextAddress_zero s, (frame_halt s).pc_last, ?_⟩⟩
  intro u hstep
  have hstays : StepsTo (halt s) (halt s) := .halted (by simp [halt])
  exact Host.Outcome.next.inj (hstep.symm.trans hstays.step_eq)

end Sys2Proof.Machine
end

section
/-! How a step goes (spec/60_exceptions.md): the bound check comes first, then the gate, and each way through answers a
next state. -/

namespace Sys2Proof.Machine

/-! ## The bound check (spec/60_exceptions.md R275) -/

theorem atPcLimit_of_le {s : State} {limit : Fin 65537} (hcfg : s.cfg.pcLimit = some limit)
    (hle : limit.val ≤ s.pc.toNat) : atPcLimit s = true := by
  simp [atPcLimit, hcfg, hle]

theorem step_of_not_atPcLimit {s : State} (hrun : s.run = .running) (hlimit : atPcLimit s = false) :
    step s = runInstruction s := by
  simp [step, hrun, hlimit]

/-- Settles O9: the bound check splits in two at PC = PC_LIMIT, and without a bound it always lets the step go on. -/
theorem pcLimitHaltsCleanly : Obligations.PcLimitHaltsCleanly := by
  refine fun s hrun => ⟨fun limit hcfg => ⟨fun hle => ?_, fun hlt => ?_⟩, fun hcfg => ?_⟩
  · exact (StepsTo.bound hrun (atPcLimit_of_le hcfg hle)).step_eq
  · refine step_of_not_atPcLimit hrun ((atPcLimit_eq_false_iff s).mpr fun other hother => ?_)
    obtain rfl : limit = other := Option.some.inj (hcfg.symm.trans hother)
    exact hlt
  · exact step_of_not_atPcLimit hrun ((atPcLimit_eq_false_iff s).mpr (by simp [hcfg]))

/-! ## The gate (spec/60_exceptions.md R272) -/

/-- What the step leaves when the gate stops it differs in the fault record, `run` and PC only (R273). -/
theorem frame_faultAtGate (op : Byte) (s : State) :
    UnchangedExcept [.fault, .run, .pc] s (raiseUnimplementedOpcode op s.pc (preIncrement s)) :=
  ((frame_preIncrement s).trans (frame_raiseUnimplementedOpcode op s.pc (preIncrement s))).mono (by simp)

/-- A byte that passes the gate decodes to a documented instruction (spec/30_encoding.md R105). -/
theorem wellFormed_of_implemented {cfg : Config} {op : Byte} (himpl : implemented cfg op = true) (b1 b2 : Byte) :
    (decodeOp op b1 b2).wellFormed = true := by
  rw [(reads_decodeOp op b1 b2).wellFormed_eq]
  exact (Bool.and_eq_true_iff.mp himpl).1

/-- A documented instruction writes no fault record, and leaves `run` as it is or ends the run as HLT does
(spec/60_exceptions.md R270). -/
theorem Executes.control_of_wellFormed {s t : State} {i : Instr} (h : Executes s i t) (hwf : i.wellFormed = true) :
    t.fault = s.fault ∧ (t.run = s.run ∨ (i = .hlt ∧ t.run = .haltedNormal)) := by
  rcases h.control with ⟨hrun, hfault, -⟩ | ⟨rfl, rfl⟩ | ⟨hundoc, -⟩ | ⟨p8, -, rfl⟩ | ⟨p8, -, rfl⟩
  · exact ⟨hfault, .inl hrun⟩
  · exact ⟨rfl, .inr ⟨rfl, rfl⟩⟩
  · simp [Instr.wellFormed, hundoc] at hwf
  · exact ⟨rfl, .inl rfl⟩
  · exact ⟨rfl, .inl rfl⟩

/-- Settles O10: a byte the gate stops takes the fault after the pre-increment; one that passes decodes to a documented
instruction, and none of those faults. -/
theorem unimplementedOpcodeFault : Obligations.UnimplementedOpcodeFault := by
  intro s hrun hlimit
  have hbelow : atPcLimit s = false := (atPcLimit_eq_false_iff s).mpr hlimit
  refine ⟨fun hstop => ?_, fun hpass => ?_⟩
  · exact ⟨_, (StepsTo.gate hrun hbelow hstop).step_eq, rfl, rfl, rfl, frame_faultAtGate _ s⟩
  · obtain ⟨t, hexec⟩ := exists_executes (decodeOp (fetch s).op (fetch s).b1 (fetch s).b2) (preIncrement s)
    obtain ⟨hfault, hctl⟩ := hexec.control_of_wellFormed (wellFormed_of_implemented hpass _ _)
    refine ⟨t, (StepsTo.executes hrun hbelow hpass hexec).step_eq, ?_, hfault⟩
    rcases hctl with hkept | ⟨-, hhalted⟩
    · simp [hkept, hrun]
    · simp [hhalted]

/-! ## Every step answers (spec/70_reset_and_hazards.md R309) -/

/-- Settles O12: every pattern of instruction has its case of Executes, every way through a step its case of StepsTo. -/
theorem everyStepAnswers : Obligations.EveryStepAnswers :=
  ⟨fun i s => (exists_executes i s).imp fun _ => Executes.exec_eq,
    fun s => (exists_stepsTo s).imp fun _ => StepsTo.step_eq⟩

end Sys2Proof.Machine
end

section
/-! How a run begins and ends (spec/70_reset_and_hazards.md): the launch state of an image, and the three ways a running
machine stops. -/

namespace Sys2Proof.Machine

/-! ## The end of a run (spec/70_reset_and_hazards.md R310) -/

theorem atPcLimit_iff (s : State) :
    atPcLimit s = true ↔ ∃ limit, s.cfg.pcLimit = some limit ∧ limit.val ≤ s.pc.toNat := by
  unfold atPcLimit
  cases s.cfg.pcLimit <;> simp

/-- A running machine that meets the invariant has no fault record (spec/10_state.md R37). -/
theorem State.Inv.fault_eq_none {s : State} (h : s.Inv) (hrun : s.run = .running) : s.fault = none := by
  obtain ⟨-, -, hfault⟩ := h
  simpa [hrun] using hfault

/-- HLT has one opcode byte (spec/30_encoding.md R101). -/
theorem opcode_of_decodeOp_eq_hlt {op b1 b2 : Byte} (h : decodeOp op b1 b2 = .hlt) : op = 0x76 := by
  have hencode := encode_decodeOp op b1 b2
  rw [h] at hencode
  exact (List.cons.inj hencode).1.symm

/-- An implemented byte whose instruction leaves a running machine not running is that of HLT
(spec/60_exceptions.md R270, R276). -/
theorem Executes.hlt_of_stops {s t : State} {op b1 b2 : Byte} (h : Executes s (decodeOp op b1 b2) t)
    (himpl : implemented s.cfg op = true) (hrun : s.run = .running) (hstop : t.run ≠ .running) :
    op = 0x76 ∧ t = halt s := by
  obtain ⟨-, hkept | ⟨hhlt, -⟩⟩ := h.control_of_wellFormed (wellFormed_of_implemented himpl b1 b2)
  · exact absurd (hkept.trans hrun) hstop
  · rw [hhlt] at h
    exact ⟨opcode_of_decodeOp_eq_hlt hhlt, (Executes.hlt.eq_of_exec h.exec_eq).symm⟩

/-- Settles O11: of the ways a step goes from a running state, the bound check and the gate end the run, and an
instruction that ends it is HLT. -/
theorem runEndsInThreeWays : Obligations.RunEndsInThreeWays := by
  intro s t hs hrun hstep hstop
  have hnone := hs.fault_eq_none hrun
  cases step_eq_next_iff.mp hstep with
  | halted => exact absurd hrun hstop
  | bound _ hlimit => exact .inl ⟨rfl, hnone, .inl ⟨(atPcLimit_iff s).mp hlimit, rfl⟩⟩
  | gate _ _ himpl => exact .inr ⟨rfl, rfl, himpl, rfl⟩
  | executes _ _ himpl h =>
    obtain ⟨hop, rfl⟩ := h.hlt_of_stops himpl hrun hstop
    exact .inl ⟨rfl, hnone, .inr ⟨hop, hop ▸ himpl, nextAddress_zero (preIncrement s)⟩⟩

/-! ## Launch (spec/70_reset_and_hazards.md R301, R302) -/

/-- Loading keeps every byte below the first index and gives the bytes of the image from there on; past its end the old
bytes stay. -/
theorem read_loadFrom (image : List Byte) (i j : Nat) (m : Memory) :
    Memory.read (loadFrom image i m) j =
      if j < i then Memory.read m j else image.getD (j - i) (Memory.read m j) := by
  induction image generalizing i m with
  | nil => simp [loadFrom]
  | cons v rest ih =>
    rw [loadFrom, ih, Memory.read_write]
    rcases Nat.lt_trichotomy j i with hlt | rfl | hgt
    · simp [hlt, hlt.ne, Nat.lt_succ_of_lt hlt]
    · simp
    · obtain ⟨k, rfl⟩ := Nat.exists_eq_add_of_lt hgt
      simp [show ¬i + k + 1 < i by omega, show i + k + 1 ≠ i by omega, show i + k + 1 - i = k + 1 by omega]

/-- Loading adds no cell past the end of the image. -/
theorem mem_loadFrom {image : List Byte} {i : Nat} {m : Memory} {cell : Host.Cell} (h : cell ∈ loadFrom image i m) :
    cell.1 < i + image.length ∨ cell ∈ m := by
  induction image generalizing i m with
  | nil => exact .inr h
  | cons v rest ih =>
    rw [List.length_cons]
    rcases ih h with hlt | hwrite
    · exact .inl (by omega)
    · rcases Memory.mem_write hwrite with ⟨rfl, -⟩ | hold
      · exact .inl (by omega)
      · exact .inr hold

/-- The state launch gives for an image that fits: construction with the image loaded from index 0. -/
def launchState (cfg : Config) (image : List Byte) : State :=
  { State.construct cfg with mem := loadFrom image 0 [] }

theorem launch_of_long {cfg : Config} {image : List Byte} (h : memSize cfg < image.length) :
    launch cfg image = .error .imageTooLarge := if_pos h

theorem launch_of_fits {cfg : Config} {image : List Byte} (h : image.length ≤ memSize cfg) :
    launch cfg image = .ok (launchState cfg image) := if_neg (Nat.not_lt.mpr h)

theorem inv_launchState {cfg : Config} {image : List Byte} (h : image.length ≤ memSize cfg) :
    (launchState cfg image).Inv := by
  obtain ⟨hwf, -, hfault⟩ := inv_construct cfg
  refine ⟨wf_loadFrom image 0 [] hwf, fun cell hcell => ?_, hfault⟩
  rcases mem_loadFrom hcell with hlt | hnil
  · exact (Nat.zero_add image.length ▸ hlt).trans_le h
  · exact absurd hnil List.not_mem_nil

theorem memRead_launchState (cfg : Config) (image : List Byte) (addr : Word) :
    memRead (launchState cfg image) addr = image.getD (addr.toNat % memSize cfg) 0x00 :=
  read_loadFrom image 0 (addr.toNat % memSize cfg) []

theorem frame_launchState (cfg : Config) (image : List Byte) :
    UnchangedExcept [.mem] (State.construct cfg) (launchState cfg image) := by
  refine ⟨fun r _ => ?_, ?_⟩
  · cases r <;> rfl
  · simp [launchState]

/-- Settles O17: an image that fits is launched in the state with its bytes loaded, and a longer one is refused. -/
theorem launchPlacesImage : Obligations.LaunchPlacesImage := fun cfg image =>
  ⟨launch_of_long, fun h =>
    ⟨launchState cfg image, launch_of_fits h, inv_launchState h, memRead_launchState cfg image,
      frame_launchState cfg image⟩⟩

end Sys2Proof.Machine
end

section
/-! A halted machine (spec/60_exceptions.md section 3). -/

namespace Sys2Proof.Machine

/-- Settles O8: of the ways a step goes, the one from a state that is not running is the one that stays there. -/
theorem haltedStateStays : Obligations.HaltedStateStays := by
  intro s hrun
  have hstays : StepsTo s s := .halted hrun
  exact hstays.step_eq

end Sys2Proof.Machine
end
